-- ==== Sys2Proof/Word.lean ====
section
/-! DEFINITION. The word types of the block, at the widths spec/00_scope.md R9 fixes. -/

namespace Sys2Proof

/-- A byte: a MIDI byte, a buffer element, a checksum byte (R9). -/
abbrev Byte := BitVec 8

/-- A 16-bit value: the write-cipher register, a seed, a page index (R9). -/
abbrev Half := BitVec 16

/-- A 24-bit device byte address ("address: u24", R9). -/
abbrev Addr := BitVec 24

/-- A 32-bit image word, image size or image checksum (R9). -/
abbrev Word := BitVec 32

/-- A byte sequence: a buffer, a message, a payload (spec/00_scope.md R11, spec/20_memory.md R51). -/
abbrev Bytes := List Byte

/-- The four label bytes of `DISPLAY` and of `REBOOT_LABEL` (spec/30_encoding.md R86). -/
structure Label where
  l0 : Byte
  l1 : Byte
  l2 : Byte
  l3 : Byte
deriving DecidableEq, Repr

/-- The label as the byte sequence `[L0, L1, L2, L3]` of R86. -/
def Label.bytes (l : Label) : Bytes := [l.l0, l.l1, l.l2, l.l3]

end Sys2Proof
end

