-- ==== Sys2Proof/Config.lean ====
section
/-! DEFINITION. The constants of spec/00_scope.md R8 (kind DOC), the defaults of its DEFAULT parameters, and the one free
value of the model. The OPEN and DEFAULT parameters themselves are registers of State (R23, log 13), not constants. -/

namespace Sys2Proof.Config

/-- `SOX`, the start byte of a SysEx message (R8). -/
def sox : Byte := 0xF0
/-- `EOX`, the end byte of a SysEx message (R8). -/
def eox : Byte := 0xF7
/-- `MANUF`, the manufacturer bytes (R8). -/
def manuf : Bytes := [0x00, 0x20, 0x32]
/-- `CMD_PROBE` (R8). -/
def cmdProbe : Byte := 0x01
/-- `CMD_WRITE` (R8). -/
def cmdWrite : Byte := 0x34
/-- `CMD_ACK` (R8). -/
def cmdAck : Byte := 0x35
/-- `CMD_READ` (R8). -/
def cmdRead : Byte := 0x74
/-- `PAGE_SIZE` (R8). -/
def pageSize : Nat := 256
/-- `SECTOR_SIZE`, 16 pages (R8). -/
def sectorSize : Nat := 4096
/-- `PAGE_PAYLOAD_LEN`, the encoded length (R8). -/
def pagePayloadLen : Nat := 296
/-- `DISPLAY_SENTINEL` as the device address of page index `0xFF00` (R8, spec/44_format_converter.md R230). -/
def sentinelAddr : Nat := 0xFF0000
/-- `WPOLY` (R8). -/
def wpoly : Half := 0x8005
/-- `WSEED_DEFAULT` (R8). -/
def wseedDefault : Half := 0x545A
/-- `CKPOLY`, in the nine bits of `CK` (R8). -/
def ckpoly : BitVec 9 := 0x19
/-- `DMAGIC_INIT`, in the 33 bits of `DMAGIC` (R8). -/
def dmagicInit : BitVec 33 := 0x42474552
/-- `OS_HDR_LEN` (R8). -/
def osHdrLen : Nat := 8
/-- `OS_SIZE_BIAS` (R8). -/
def osSizeBias : Nat := 0x2008
/-- `OS_SIZE_LIMIT` (R8). -/
def osSizeLimit : Nat := 0x7FFFF
/-- `OS_FILL` (R8). -/
def osFill : Byte := 0xFF
/-- `DUMP_FILL` (R8). -/
def dumpFill : Byte := 0x00
/-- `BASE_FLOOR` (R8). -/
def baseFloor : Nat := 0x2000
/-- `BASE_ALIGN` (R8). -/
def baseAlign : Nat := 0x1000
/-- `DEFAULT_BASE`, the base address of a driver that names none (R8). No operation reads it: `OS_SIZE_BIAS` is
`DEFAULT_BASE + OS_HDR_LEN` (spec/20_memory.md R56). -/
def defaultBase : Nat := 0x2000
/-- The default of `ADDR_LIMIT`, and the end of the 24-bit address space (R8). -/
def addrLimitDefault : Nat := 0x1000000
/-- The largest acknowledgment status that has a meaning (spec/30_encoding.md R87). -/
def ackStatusMax : Nat := 3

/-- The two bit orders `CK_BIT_ORDER` names (spec/42_page_checksum.md R163). -/
inductive BitOrder where
  | lsbFirst
  | msbFirst
deriving DecidableEq, Repr

/-- The default of `CK_BIT_ORDER`, bit 0 first (R163, R8). -/
def ckBitOrderDefault : BitOrder := .lsbFirst

/-- The default of `ACK_CIPHERED` (R8). -/
def ackCipheredDefault : Bool := true

/-- FREE VALUE. What `WREG` holds at the start of the n-th operation: spec/10_state.md R30 says "unspecified", so
nothing constrains it (log 5). -/
opaque unspecifiedWreg : Nat → Half

end Sys2Proof.Config
end

