-- ==== Sys2Proof/Syntax.lean ====
section
/-! DEFINITION. The instructions: one constructor per row of spec/opcode_table.json. Rows 1 to 23 are the operations of
spec/30_encoding.md R110 with their descriptor operands in the listed order; then the five reserved code ranges of R111;
then the four wire messages of R85 to R89. -/

namespace Sys2Proof

inductive Instr where
  /-- `EXPAND`, spec/40_bit_transcoder.md R120. -/
  | expand
  /-- `PACK`, R122. -/
  | pack
  /-- `TCIPHER`, spec/41_stream_cipher.md R140. -/
  | tcipher
  /-- `WCIPHER SEED`, R145. -/
  | wcipher (seed : Half)
  /-- `CKUPD BYTEIN CKIN`, spec/42_page_checksum.md R162. -/
  | ckupd (bytein ckin : Byte)
  /-- `CKPAGE`, R164. -/
  | ckpage
  /-- `WORDCODE WORD WOFF`, spec/43_os_image_codec.md R180. -/
  | wordcode (word woff : Word)
  /-- `ICKSUM`, R185. -/
  | icksum
  /-- `DUMP2OS`, R187. -/
  | dump2os
  /-- `OS2DUMP`, R189. -/
  | os2dump
  /-- `FRAME`, spec/44_format_converter.md R210. -/
  | frame
  /-- `PAGEDEC`, R216. -/
  | pagedec
  /-- `PAGEENC PIDX`, R218. -/
  | pageenc (pidx : Half)
  /-- `MSGBUILD MODEL CMD`, R219. -/
  | msgbuild (model cmd : Byte)
  /-- `SYX2DUMP`, R220. -/
  | syx2dump
  /-- `DUMP2SYX BASE MODEL`, R230. -/
  | dump2syx (base : Addr) (model : Byte)
  /-- `SYX2OS`, R240. -/
  | syx2os
  /-- `OS2SYX BASE MODEL`, R241. -/
  | os2syx (base : Addr) (model : Byte)
  /-- `PROBE CHAN`, spec/45_device_channel.md R265. -/
  | probe (chan : Byte)
  /-- `DETECT CANDS`, R268. -/
  | detect (cands : Bytes)
  /-- `UPLOAD CHAN`, R270. -/
  | upload (chan : Byte)
  /-- `RETRIEVE CHAN START COUNT MODEL`, R285. -/
  | retrieve (chan : Byte) (start count : Addr) (model : Byte)
  /-- `DISPLAY CHAN MODEL LABEL`, R300. -/
  | display (chan model : Byte) (label : Label)
  /-- `RESERVED`, the code `0x00` (R111). -/
  | reserved00
  /-- `RESERVED`, the codes `0x18` to `0x1F`, with the code's low three bits (R111). -/
  | reserved18 (low : BitVec 3)
  /-- `RESERVED`, the codes `0x20` to `0x3F`, with the code's low five bits (R111). -/
  | reserved20 (low : BitVec 5)
  /-- `RESERVED`, the codes `0x40` to `0x7F`, with the code's low six bits (R111). -/
  | reserved40 (low : BitVec 6)
  /-- `RESERVED`, the codes `0x80` to `0xFF`, with the code's low seven bits (R111). -/
  | reserved80 (low : BitVec 7)
  /-- `MSG_PROBE`, a wire message with command `0x01` (R88). -/
  | msgProbe (model : Byte) (payload : Bytes)
  /-- `MSG_PAGE_WRITE`, a wire message with command `0x34` (R85, R86). -/
  | msgPageWrite (model : Byte) (payload : Bytes)
  /-- `MSG_ACK`, a wire message with command `0x35` (R87). -/
  | msgAck (model : Byte) (payload : Bytes)
  /-- `MSG_PAGE_READ`, a wire message with command `0x74` (R89, R293). -/
  | msgPageRead (model : Byte) (payload : Bytes)
deriving DecidableEq, Repr

end Sys2Proof
end

