-- ==== Sys2Proof/WellFormed.lean ====
section
/-! DEFINITION. Which terms of `Instr` have an encoding: the count byte of `DETECT` bounds its list
(spec/30_encoding.md R110), and the bytes inside a wire message are MIDI data bytes (R81). Every other operand fits its
field by its type. Values that an operation itself checks (a base address, a model byte) are well-formed here: the
operation answers them with its own status. -/

namespace Sys2Proof

/-- A MIDI data byte, below `0x80` (R81). -/
def isDataByte (b : Byte) : Bool := b.toNat < 0x80

/-- The bytes of a wire message that R81 restricts: the model byte and the payload. -/
def isMessageBody (model : Byte) (payload : Bytes) : Bool :=
  isDataByte model && payload.all isDataByte

/-- The instruction has an encoding. -/
def Instr.wf : Instr → Bool
  | .detect cands => decide (cands.length ≤ 255)
  | .msgProbe model payload => isMessageBody model payload
  | .msgPageWrite model payload => isMessageBody model payload
  | .msgAck model payload => isMessageBody model payload
  | .msgPageRead model payload => isMessageBody model payload
  | .expand => true
  | .pack => true
  | .tcipher => true
  | .wcipher _ => true
  | .ckupd _ _ => true
  | .ckpage => true
  | .wordcode _ _ => true
  | .icksum => true
  | .dump2os => true
  | .os2dump => true
  | .frame => true
  | .pagedec => true
  | .pageenc _ => true
  | .msgbuild _ _ => true
  | .syx2dump => true
  | .dump2syx _ _ => true
  | .syx2os => true
  | .os2syx _ _ => true
  | .probe _ => true
  | .upload _ => true
  | .retrieve _ _ _ _ => true
  | .display _ _ _ => true
  | .reserved00 => true
  | .reserved18 _ => true
  | .reserved20 _ => true
  | .reserved40 _ => true
  | .reserved80 _ => true

end Sys2Proof
end

