-- ==== Sys2Proof/Decode.lean ====
section
/-! DEFINITION. Field assembly (spec/30_encoding.md R92, spec/00_scope.md R11), the decoders of descriptors (R110, R111)
and of wire messages (R80 to R82, R94), the encoder, and the reading of a table word. -/

namespace Sys2Proof

/-- A 16-bit field of a descriptor, low byte first (R110). -/
def le16 (b0 b1 : Byte) : Half := b1 ++ b0
/-- A 24-bit field of a descriptor, low byte first (R110). -/
def le24 (b0 b1 b2 : Byte) : Addr := b2 ++ b1 ++ b0
/-- `le32` of R11: a 32-bit word from four bytes, the first the least significant. -/
def le32 (b0 b1 b2 b3 : Byte) : Word := b3 ++ b2 ++ b1 ++ b0
/-- `be16` of R11: a 16-bit value from two bytes, the first the most significant. -/
def be16 (hi lo : Byte) : Half := hi ++ lo

/-- Byte `i` of a value, byte 0 the least significant. -/
def byteOf {n : Nat} (i : Nat) (v : BitVec n) : Byte := v.extractLsb' (8 * i) 8

/-- The two bytes of a 16-bit descriptor field, low byte first (R110). -/
def put16 (v : Half) : Bytes := [byteOf 0 v, byteOf 1 v]
/-- The three bytes of a 24-bit descriptor field, low byte first (R110). -/
def put24 (v : Addr) : Bytes := [byteOf 0 v, byteOf 1 v, byteOf 2 v]
/-- `put32` of R11. -/
def put32 (v : Word) : Bytes := [byteOf 0 v, byteOf 1 v, byteOf 2 v, byteOf 3 v]

/-- Why bytes are no instruction. -/
inductive DecodeError where
  /-- A descriptor with no byte, so with no `OPC` (R111). -/
  | emptyDescriptor
  /-- A descriptor shorter than its operand list (R111). -/
  | shortDescriptor (opc : Byte)
  /-- Bytes that are no framed message of one of the four commands (R93, R94). -/
  | notAMessage
deriving DecidableEq, Repr

/-- The reserved codes, each as the row of the table it falls in (R111). -/
def decodeReserved (opc : Byte) : Instr :=
  if opc.toNat < 0x18 then .reserved00
  else if opc.toNat < 0x20 then .reserved18 (opc.extractLsb' 0 3)
  else if opc.toNat < 0x40 then .reserved20 (opc.extractLsb' 0 5)
  else if opc.toNat < 0x80 then .reserved40 (opc.extractLsb' 0 6)
  else .reserved80 (opc.extractLsb' 0 7)

/-- The first `n` bytes; `none` when there are fewer. -/
def takeExactly : Nat → Bytes → Option Bytes
  | 0, _ => some []
  | _ + 1, [] => none
  | n + 1, b :: rest => (takeExactly n rest).map (b :: ·)

/-- The operands of a descriptor after its `OPC`; `none` when it is shorter than the operand list. Bytes after the
operand list are not read (log 4). -/
def decodeOperands (opc : Byte) (ops : Bytes) : Option Instr :=
  match opc.toNat, ops with
  | 0x01, _ => some .expand
  | 0x02, _ => some .pack
  | 0x03, _ => some .tcipher
  | 0x04, b0 :: b1 :: _ => some (.wcipher (le16 b0 b1))
  | 0x04, _ => none
  | 0x05, b0 :: b1 :: _ => some (.ckupd b0 b1)
  | 0x05, _ => none
  | 0x06, _ => some .ckpage
  | 0x07, w0 :: w1 :: w2 :: w3 :: o0 :: o1 :: o2 :: o3 :: _ =>
      some (.wordcode (le32 w0 w1 w2 w3) (le32 o0 o1 o2 o3))
  | 0x07, _ => none
  | 0x08, _ => some .icksum
  | 0x09, _ => some .dump2os
  | 0x0A, _ => some .os2dump
  | 0x0B, _ => some .frame
  | 0x0C, _ => some .pagedec
  | 0x0D, b0 :: b1 :: _ => some (.pageenc (le16 b0 b1))
  | 0x0D, _ => none
  | 0x0E, m :: c :: _ => some (.msgbuild m c)
  | 0x0E, _ => none
  | 0x0F, _ => some .syx2dump
  | 0x10, b0 :: b1 :: b2 :: m :: _ => some (.dump2syx (le24 b0 b1 b2) m)
  | 0x10, _ => none
  | 0x11, _ => some .syx2os
  | 0x12, b0 :: b1 :: b2 :: m :: _ => some (.os2syx (le24 b0 b1 b2) m)
  | 0x12, _ => none
  | 0x13, c :: _ => some (.probe c)
  | 0x13, _ => none
  | 0x14, n :: rest => (takeExactly n.toNat rest).map .detect
  | 0x14, _ => none
  | 0x15, c :: _ => some (.upload c)
  | 0x15, _ => none
  | 0x16, c :: s0 :: s1 :: s2 :: n0 :: n1 :: n2 :: m :: _ =>
      some (.retrieve c (le24 s0 s1 s2) (le24 n0 n1 n2) m)
  | 0x16, _ => none
  | 0x17, c :: m :: l0 :: l1 :: l2 :: l3 :: _ => some (.display c m ⟨l0, l1, l2, l3⟩)
  | 0x17, _ => none
  | _, _ => some (decodeReserved opc)

/-- The decoder of descriptors (R110, R111): total, rejecting by name. -/
def decodeDescriptor : Bytes → Except DecodeError Instr
  | [] => .error .emptyDescriptor
  | opc :: ops =>
    match decodeOperands opc ops with
    | some i => .ok i
    | none => .error (.shortDescriptor opc)

/-- The payload of a message: the bytes up to its first `0xF7`, all of them data bytes (R81, R82). -/
def takePayload : Bytes → Option Bytes
  | [] => none
  | b :: rest =>
    if b = Config.eox then some []
    else if isDataByte b then (takePayload rest).map (b :: ·)
    else none

/-- The row of the message map that a command byte selects (R93, R94). -/
def messageOf (model cmd : Byte) (payload : Bytes) : Option Instr :=
  if cmd = Config.cmdProbe then some (.msgProbe model payload)
  else if cmd = Config.cmdWrite then some (.msgPageWrite model payload)
  else if cmd = Config.cmdAck then some (.msgAck model payload)
  else if cmd = Config.cmdRead then some (.msgPageRead model payload)
  else none

/-- The bytes begin like one of the four message rows of the table. -/
def isMessageRow : Bytes → Bool
  | b0 :: b1 :: b2 :: b3 :: _ :: c :: _ =>
    b0 == Config.sox && [b1, b2, b3] == Config.manuf &&
      [Config.cmdProbe, Config.cmdWrite, Config.cmdAck, Config.cmdRead].contains c
  | _ => false

/-- The decoder of wire messages (R80 to R82, R94). -/
def decodeMessage : Bytes → Except DecodeError Instr
  | b0 :: b1 :: b2 :: b3 :: m :: c :: rest =>
    if b0 = Config.sox ∧ [b1, b2, b3] = Config.manuf ∧ isDataByte m then
      match takePayload rest with
      | some p =>
        match messageOf m c p with
        | some i => .ok i
        | none => .error .notAMessage
      | none => .error .notAMessage
    else .error .notAMessage
  | _ => .error .notAMessage

/-- The instruction that bytes stand for in either of the two encodings: a message where they begin like a message row
of the table, else a descriptor. -/
def decode (bs : Bytes) : Except DecodeError Instr :=
  if isMessageRow bs then decodeMessage bs else decodeDescriptor bs

/-- A message of model byte, command byte and payload (R80). -/
def messageBytes (model cmd : Byte) (payload : Bytes) : Bytes :=
  Config.sox :: Config.manuf ++ [model, cmd] ++ payload ++ [Config.eox]

/-- The bytes of an instruction: its descriptor (R110) or its message (R80). -/
def encode : Instr → Bytes
  | .expand => [0x01]
  | .pack => [0x02]
  | .tcipher => [0x03]
  | .wcipher seed => 0x04 :: put16 seed
  | .ckupd bytein ckin => [0x05, bytein, ckin]
  | .ckpage => [0x06]
  | .wordcode word woff => 0x07 :: put32 word ++ put32 woff
  | .icksum => [0x08]
  | .dump2os => [0x09]
  | .os2dump => [0x0A]
  | .frame => [0x0B]
  | .pagedec => [0x0C]
  | .pageenc pidx => 0x0D :: put16 pidx
  | .msgbuild model cmd => [0x0E, model, cmd]
  | .syx2dump => [0x0F]
  | .dump2syx base model => 0x10 :: put24 base ++ [model]
  | .syx2os => [0x11]
  | .os2syx base model => 0x12 :: put24 base ++ [model]
  | .probe chan => [0x13, chan]
  | .detect cands => 0x14 :: BitVec.ofNat 8 cands.length :: cands
  | .upload chan => [0x15, chan]
  | .retrieve chan start count model => 0x16 :: chan :: put24 start ++ put24 count ++ [model]
  | .display chan model label => 0x17 :: chan :: model :: label.bytes
  | .reserved00 => [0x00]
  | .reserved18 low => [0b00011#5 ++ low]
  | .reserved20 low => [0b001#3 ++ low]
  | .reserved40 low => [0b01#2 ++ low]
  | .reserved80 low => [0b1#1 ++ low]
  | .msgProbe model payload => messageBytes model Config.cmdProbe payload
  | .msgPageWrite model payload => messageBytes model Config.cmdWrite payload
  | .msgAck model payload => messageBytes model Config.cmdAck payload
  | .msgPageRead model payload => messageBytes model Config.cmdRead payload

/-- Bytes of a table word, byte `i` its bits `8i+7 .. 8i`. -/
def wordBytes (w : Nat) : Nat → Bytes
  | 0 => []
  | n + 1 => BitVec.ofNat 8 w :: wordBytes (w / 256) n

/-- The longest descriptor, `DETECT` with 255 candidates (R110). -/
def longestDescriptor : Nat := 257

/-- An instruction whose low `nbits` bits are `w`, laid out as bytes. A descriptor is followed by zeros up to the
longest descriptor. A message row gives bits to the header only; its end byte `0xF7` stands at the row's `len - 1`, so
it follows the given bytes where they do not hold one (log 22). -/
def tableBytes (nbits w : Nat) : Bytes :=
  let n := (nbits + 7) / 8
  let given := wordBytes (w % 2 ^ nbits) n
  if isMessageRow given then
    if given.contains Config.eox then given else given ++ [Config.eox]
  else given ++ List.replicate (longestDescriptor - n) 0

/-- The instruction the decoder reads from a table word. -/
def decodeTableWord (nbits w : Nat) : Option Instr :=
  match decode (tableBytes nbits w) with
  | .ok i => some i
  | .error _ => none

end Sys2Proof
end

