-- ==== Sys2Proof/Machine/State.lean ====
section
/-! DEFINITION. The state of the block (spec/10_state.md), the acts of the host and the platform that drive it, the
result record, and the state after power-on (spec/70_reset_and_hazards.md R340). -/

namespace Sys2Proof.Machine

/-! ## Errors and results -/

/-- The seven error kinds of spec/60_exceptions.md R310. -/
inductive ErrKind where
  | formatError
  | checksumMismatch
  | addressDiscontinuity
  | sizeOutOfRange
  | protocolTimeout
  | unexpectedResponse
  | deviceNotFound
deriving DecidableEq, Repr

/-- The named checks that the pseudocode gives as the `info` of an error (R312). -/
inductive Check where
  | expandLength
  | packLength
  | oddLength
  | wordLength
  | shortHeader
  | shortData
  | pagePayloadLength
  | pageDataLength
  | headerByte
  | payloadGroups
  | mixedFamilies
  | noFirmwarePage
  | baseAddress
  | modelByte
  | addressRange
  | sentinelPage
  | unalignedRange
  | ackPayload
  | ackStatus
  | pageIndex
deriving DecidableEq, Repr

/-- The `info` value of an error; not normative (R312, log 16). -/
inductive Info where
  | none
  | check (c : Check)
  | index (i : Nat)
  | page (pidx : Half)
  | address (a : Addr)
  | size (n : Nat)
  | checksum (ck : Word)
  | command (b : Byte)
  | foreign
  | channel (c : Byte)
deriving DecidableEq, Repr

/-- A raised error: its kind and its `info` (R312). -/
structure Err where
  kind : ErrKind
  info : Info
deriving DecidableEq, Repr

/-- The status of a result (R310). -/
inductive Status where
  | ok
  | failed (k : ErrKind)
  | refused
deriving DecidableEq, Repr

/-- The only event, `WARN_STRAY(i)` (R322). -/
inductive Event where
  | warnStray (i : Nat)
deriving DecidableEq, Repr

/-- One entry of `REPORTS`: the acknowledged address and its status (spec/10_state.md R24). -/
structure Report where
  addr : Half
  status : Byte
deriving DecidableEq, Repr

/-- The result record of spec/10_state.md R20; a component an operation does not return is `none`. -/
structure Result where
  status : Status
  info : Info
  out : Option Bytes
  base : Option Addr
  events : List Event
  reports : Option (List Report)
  device : Option Byte
deriving DecidableEq, Repr

/-! ## Parameter and configuration registers -/

/-- The parameter registers of R22. `none` is the spec's own state "never written" (R32, R340, log 6). -/
structure ParamRegs where
  opc : Option Byte
  seed : Option Half
  bytein : Option Byte
  ckin : Option Byte
  word : Option Word
  woff : Option Word
  model : Option Byte
  cmd : Option Byte
  base : Option Addr
  pidx : Option Half
  start : Option Addr
  count : Option Addr
  label : Option Label
  chan : Option Byte
  cands : Option Bytes
deriving DecidableEq, Repr

/-- `SEED_OF` as data: the addresses whose seed differs from the default `A mod 2^16` (R23, R147, log 8). -/
structure SeedOf where
  entries : List (Addr × Half)
deriving DecidableEq, Repr

/-- One entry of `READ_REQUEST`: the payload for a model byte and a page index. -/
structure RequestEntry where
  model : Byte
  pidx : Half
  payload : Bytes
deriving DecidableEq, Repr

/-- `READ_REQUEST` as data: its listed entries, and the payload of every other argument (R23, R89, log 8). -/
structure ReadRequest where
  entries : List RequestEntry
  fallback : Bytes
deriving DecidableEq, Repr

/-- The configuration registers of R23 and R33, and `CK_BIT_ORDER` beside them, a DEFAULT parameter of
spec/00_scope.md R8 that R23 does not list (log 13). `none` is the spec's own state "never configured" (R32, R342). -/
structure ConfigRegs where
  transportKey : Option (Vector Byte 13)
  osT1 : Option (Vector Word 15)
  osT2 : Option (Vector Word 14)
  probeRequest : Option Bytes
  readRequest : Option ReadRequest
  rebootLabel : Option Label
  seedOf : SeedOf
  addrLimit : Nat
  ackCiphered : Bool
  ckBitOrder : Config.BitOrder
deriving DecidableEq, Repr

/-! ## Datapath registers -/

/-- `FSTATE` (R24). -/
inductive FrameState where
  | outside
  | inside
deriving DecidableEq, Repr

/-- `FAMILY` (R24). -/
inductive Family where
  | none
  | write
  | readback
deriving DecidableEq, Repr

/-- The values of `SEQ` (R28). -/
inductive SeqState where
  | idle
  | probeWait
  | upSend
  | upWaitAck
  | rtSend
  | rtWait
  | dispSend
  | done
  | failed
deriving DecidableEq, Repr

/-- The datapath registers of R24, with the event list of R20 and the page counter of R27 (b). -/
structure Datapath where
  wreg : Half
  ck : BitVec 9
  tki : Fin 13
  dmagic : BitVec 33
  isum : Word
  wofs : Word
  fstate : FrameState
  fbuf : Bytes
  warned : Bool
  family : Family
  lastAddr : Option Addr
  dbase : Option Addr
  seq : SeqState
  reports : List Report
  events : List Event
  page : Nat
deriving DecidableEq, Repr

/-- The datapath registers after power-on (R30, R340). `WREG` is "unspecified" there: 0 is a DESIGN CHOICE (log 5). -/
def Datapath.reset : Datapath where
  wreg := 0
  ck := 0
  tki := 0
  dmagic := Config.dmagicInit
  isum := 0
  wofs := 0
  fstate := .outside
  fbuf := []
  warned := false
  family := .none
  lastAddr := none
  dbase := none
  seq := .idle
  reports := []
  events := []
  page := 0

/-! ## The channel port -/

/-- The two timeout classes (spec/60_exceptions.md R330). -/
inductive TimeoutClass where
  | short
  | long
deriving DecidableEq, Repr

/-- What one `Recv` returns (spec/45_device_channel.md R260). -/
inductive RecvItem where
  | byte (b : Byte)
  | noData
deriving DecidableEq, Repr

/-- A channel the platform can open, with the script of what its next `Recv` calls return (R260, R261). -/
structure Channel where
  chan : Byte
  script : List RecvItem
deriving DecidableEq, Repr

/-- What the trace records: the actions on the port (R260, R261) and the writes of `SEQ` (log 19). -/
inductive PortAction where
  | opened (c : Byte)
  | send (b : Byte)
  | flush
  | recv (t : TimeoutClass) (x : RecvItem)
  | closed (c : Byte)
  | seq (q : SeqState)
deriving DecidableEq, Repr

/-! ## What the host and the platform do -/

/-- The host writes one parameter register (R22). -/
inductive ParamWrite where
  | seed (v : Half)
  | bytein (v : Byte)
  | ckin (v : Byte)
  | word (v : Word)
  | woff (v : Word)
  | model (v : Byte)
  | cmd (v : Byte)
  | base (v : Addr)
  | pidx (v : Half)
  | start (v : Addr)
  | count (v : Addr)
  | label (v : Label)
  | chan (v : Byte)
  | cands (v : Bytes)
deriving DecidableEq, Repr

/-- The host writes one configuration register (R23, R342). -/
inductive ConfigWrite where
  | transportKey (v : Vector Byte 13)
  | osT1 (v : Vector Word 15)
  | osT2 (v : Vector Word 14)
  | probeRequest (v : Bytes)
  | readRequest (v : ReadRequest)
  | rebootLabel (v : Label)
  | seedOf (v : SeedOf)
  | addrLimit (v : Nat)
  | ackCiphered (v : Bool)
  | ckBitOrder (v : Config.BitOrder)
deriving DecidableEq, Repr

/-- One act from outside the block, served by one step (R20, R21, log 1). -/
inductive Request where
  /-- The host starts the operation that a descriptor names (R110). -/
  | start (desc : Bytes)
  /-- The host writes `OPC` and starts the operation on the parameter registers as they stand (R20, R22). -/
  | startRegs (opc : Byte)
  | writeParam (w : ParamWrite)
  | writeConfig (w : ConfigWrite)
  /-- The host supplies `IN` (R20). -/
  | supply (input : Bytes)
  /-- The host reads the result (R28). -/
  | readResult
  /-- The platform names a channel it can open and gives its script (R260, R261). -/
  | attach (c : Channel)
  /-- Message bytes arrive on the wire (R93, log 11). -/
  | message (bs : Bytes)
deriving DecidableEq, Repr

/-! ## The state -/

/-- Everything the spec gives the block, and the model's own fields `trace`, `inbox` and `freeCount`. -/
structure State where
  cfg : ConfigRegs
  par : ParamRegs
  dp : Datapath
  inBuf : Bytes
  outBuf : Bytes
  result : Option Result
  channels : List Channel
  openChan : Option Byte
  trace : List PortAction
  inbox : List Request
  freeCount : Nat
deriving DecidableEq, Repr

/-- The parameter registers after power-on: unspecified until the host writes them (R340). -/
def ParamRegs.reset : ParamRegs where
  opc := none
  seed := none
  bytein := none
  ckin := none
  word := none
  woff := none
  model := none
  cmd := none
  base := none
  pidx := none
  start := none
  count := none
  label := none
  chan := none
  cands := none

/-- The configuration registers after power-on: OPEN ones unspecified, DEFAULT ones at their default (R340, R342). -/
def ConfigRegs.reset : ConfigRegs where
  transportKey := none
  osT1 := none
  osT2 := none
  probeRequest := none
  readRequest := none
  rebootLabel := none
  seedOf := ⟨[]⟩
  addrLimit := Config.addrLimitDefault
  ackCiphered := Config.ackCipheredDefault
  ckBitOrder := Config.ckBitOrderDefault

/-- The block right after power-on (R340): it waits for the first operation (R343). -/
def State.reset : State where
  cfg := ConfigRegs.reset
  par := ParamRegs.reset
  dp := Datapath.reset
  inBuf := []
  outBuf := []
  result := none
  channels := []
  openChan := none
  trace := []
  inbox := []
  freeCount := 0

/-! ## Why a step could stop -/

/-- The faults of the model. No instruction raises one. -/
inductive Fault where
  /-- `memRead` of Machine/Ops.lean raises it for a read past the end of a buffer, which no rule makes
  (spec/20_memory.md R52). Safe: the model stops. -/
  | readPastEnd
deriving DecidableEq, Repr

/-- The refusals of the model. -/
inductive Refusal where
  /-- An arm of `exec` whose instruction has no meaning yet; no arm is one. Safe: the model stops. -/
  | notModelled (mnemonic : String)
deriving DecidableEq, Repr

end Sys2Proof.Machine
end

