-- ==== Sys2Proof/Machine/Ops.lean ====
section
/-! DEFINITION. The shared operations: the buffers of spec/20_memory.md R52, the start of an operation
(spec/10_state.md R30), its normal end (R20), its end by an error (spec/60_exceptions.md R314) or by `Refused`
(spec/70_reset_and_hazards.md R342), the sequencer register, and the channel port (spec/45_device_channel.md R260 to
R264). -/

namespace Sys2Proof.Machine

/-- What a part of an operation answers: a value, or the error it raised, with the state it leaves. -/
inductive Run (α : Type) where
  | ok (a : α) (s : State)
  | raised (e : Err) (s : State)
deriving Repr

/-- Go on with `k` after a part that raised nothing; an error ends the whole (R314, R317). -/
def Run.andThen {α β : Type} (r : Run α) (k : α → State → Run β) : Run β :=
  match r with
  | .ok a s => k a s
  | .raised e s => .raised e s

/-- `k v`, with `v` computed before `k` goes on. Loops carry their register values through it, so that Lean's kernel can
run them on long inputs; it changes no value (`strictly_eq` of Laws/Ops.lean). -/
def strictly {n : Nat} {α : Type} (v : BitVec n) (k : BitVec n → α) : α :=
  match v.toNat with
  | 0 => k 0
  | m + 1 => k (BitVec.ofNat n (m + 1))

/-! ## Buffers -/

/-- `align4` of spec/00_scope.md R11. -/
def align4 (n : Nat) : Nat := (n + 3) / 4 * 4

/-- `alignUp` of R11. -/
def alignUp (n m : Nat) : Nat := (n + m - 1) / m * m

/-- `MemRead(a, n)` (R52): bytes `a` to `a + n - 1` of a buffer. -/
def memRead (buf : Bytes) (a n : Nat) : Except Fault Bytes :=
  if a + n ≤ buf.length then .ok ((buf.drop a).take n) else .error .readPastEnd

/-- `MemWrite(a, n, v)` with `n = len(v)` (R52): extends the buffer when the write passes its end. Every rule writes at
`a ≤ len`, so there is no gap. -/
def memWrite (buf : Bytes) (a : Nat) (v : Bytes) : Bytes :=
  buf.take a ++ v ++ buf.drop (a + v.length)

/-- `append(OUT, S)` (R12, R52). -/
def append (buf v : Bytes) : Bytes := memWrite buf buf.length v

/-- Byte `i` of a sequence whose length the caller has checked. -/
def byteAt (bs : Bytes) (i : Nat) : Byte := bs.getD i 0

/-- A buffer as cells of one address space from 0 (R50, R51; log 7). -/
def Memory.cells (buf : Bytes) : List Host.Cell := buf.zipIdx.map fun p => (p.2, p.1)

/-- The canonical form of a list of cells: addresses strictly rising. -/
def Memory.wf : List Host.Cell → Bool
  | [] => true
  | [_] => true
  | a :: b :: rest => decide (a.1 < b.1) && Memory.wf (b :: rest)

/-! ## The start and the end of an operation -/

/-- The datapath registers at an operation's start (R30, R341): the reset values, and for `WREG`, which R30 leaves
unspecified, a free value (log 5). -/
def Datapath.start (freeWreg : Half) : Datapath := { Datapath.reset with wreg := freeWreg }

/-- An operation starts (R30, R341). -/
def State.begin (s : State) : State :=
  { s with
    dp := Datapath.start (Config.unspecifiedWreg s.freeCount)
    outBuf := []
    freeCount := s.freeCount + 1 }

/-- What an operation that ends OK returns beside its status and events (R20). -/
structure Output where
  out : Bytes
  base : Option Addr
  reports : Option (List Report)
  device : Option Byte
deriving DecidableEq, Repr

/-- An operation that returns only `OUT`. -/
def Output.ofBytes (out : Bytes) : Output := ⟨out, none, none, none⟩

/-- The code of an error kind (R310). -/
def ErrKind.code : ErrKind → Byte
  | .formatError => 1
  | .checksumMismatch => 2
  | .addressDiscontinuity => 3
  | .sizeOutOfRange => 4
  | .protocolTimeout => 5
  | .unexpectedResponse => 6
  | .deviceNotFound => 7

/-- The status code that a result reports to the host (R310). -/
def Status.code : Status → Byte
  | .ok => 0
  | .failed k => k.code
  | .refused => 8

/-- The result record of an operation that ends OK (R20). -/
def Result.ofOutput (o : Output) (events : List Event) : Result where
  status := .ok
  info := .none
  out := some o.out
  base := o.base
  events := events
  reports := o.reports
  device := o.device

/-- The result record of an error: status, info and the events emitted before it, nothing else (R314). -/
def Result.ofErr (e : Err) (events : List Event) : Result where
  status := .failed e.kind
  info := e.info
  out := none
  base := none
  events := events
  reports := none
  device := none

/-- The result record of `Refused` (R310, R342). -/
def Result.ofRefusal : Result where
  status := .refused
  info := .none
  out := none
  base := none
  events := []
  reports := none
  device := none

/-- The operation ends OK (R12 `return`, R20). -/
def State.returnOk (o : Output) (s : State) : State :=
  { s with outBuf := o.out, result := some (Result.ofOutput o s.dp.events) }

/-- TAKING AN ERROR, the block's only exceptional end (R314): the result holds the status, the info and the events; the
datapath registers and what was sent stay as they stand. -/
def State.returnError (e : Err) (s : State) : State :=
  { s with result := some (Result.ofErr e s.dp.events) }

/-- The operation is refused and does nothing else (R111, R342; log 3). -/
def State.refuse (s : State) : State := { s with result := some Result.ofRefusal }

/-! ## The sequencer register and the port -/

/-- `SEQ <- q` (R28, R305, R314), recorded in the trace. -/
def State.setSeq (q : SeqState) (s : State) : State :=
  { s with dp := { s.dp with seq := q }, trace := s.trace ++ [.seq q] }

/-- The end of an operation that does not use the channel: `SEQ` goes to `DONE`, or to `FAILED` on an error (R28, R314;
log 2). -/
def finish (r : Run Output) : State :=
  match r with
  | .ok o s => (s.setSeq .done).returnOk o
  | .raised e s => (s.setSeq .failed).returnError e

/-- The script of a channel; `none` for a channel the platform cannot open (R261). -/
def scriptOf (c : Byte) : List Channel → Option (List RecvItem)
  | [] => none
  | ch :: rest => if ch.chan = c then some ch.script else scriptOf c rest

/-- A channel's script after some of it has been received. -/
def setScript (c : Byte) (script : List RecvItem) : List Channel → List Channel
  | [] => []
  | ch :: rest => if ch.chan = c then ⟨c, script⟩ :: rest else ch :: setScript c script rest

/-- `open CHAN, else raise DeviceNotFound(CHAN)` (R261). -/
def openPort (c : Byte) (s : State) : Run Unit :=
  match scriptOf c s.channels with
  | none => .raised ⟨.deviceNotFound, .channel c⟩ s
  | some _ => .ok () { s with openChan := some c, trace := s.trace ++ [.opened c] }

/-- The channel is closed at the operation's end (spec/70_reset_and_hazards.md R343). -/
def State.closePort (s : State) : State :=
  match s.openChan with
  | none => s
  | some c => { s with openChan := none, trace := s.trace ++ [.closed c] }

/-- `SENDMSG(M)` (R262): every byte of the message, then `Flush()`. -/
def State.sendMsg (m : Bytes) (s : State) : State :=
  { s with trace := s.trace ++ m.map .send ++ [.flush] }

/-- The state of the receive framer (R263). -/
inductive RxState where
  | outside
  | inside (buf : Bytes)
deriving DecidableEq, Repr

/-- What the receive framer makes of one byte: it goes on, or a message is complete. -/
inductive RxStep where
  | more (rx : RxState)
  | complete (m : Bytes)
deriving DecidableEq, Repr

/-- One byte into the receive framer (R263). -/
def rxByte (rx : RxState) (x : Byte) : RxStep :=
  match rx with
  | .outside => if x = Config.sox then .more (.inside [x]) else .more .outside
  | .inside buf =>
    if x = Config.eox then .complete (buf ++ [x])
    else if x = Config.sox then .more (.inside [x])
    else if 0xF8 ≤ x.toNat then .more (.inside buf)
    else if 0x80 ≤ x.toNat then .more .outside
    else .more (.inside (buf ++ [x]))

/-- What a wait took from a script: the message that ended it (`none` for `NoData`), the rest of the script, and what
each `Recv` returned. -/
structure RecvRun where
  msg : Option Bytes
  rest : List RecvItem
  seen : List RecvItem
deriving DecidableEq, Repr

/-- `RECVMSG` called again and again until a message that `skip` does not discard, or `NoData` (R263, and the loops of
R265, R276 and R292). With `skip` always false it is one `RECVMSG`. After the script's end every `Recv` is `NoData`
(R260). -/
def recvUntil (skip : Bytes → Bool) : RxState → List RecvItem → RecvRun
  | _, [] => ⟨none, [], [.noData]⟩
  | _, .noData :: rest => ⟨none, rest, [.noData]⟩
  | rx, .byte b :: rest =>
    match rxByte rx b with
    | .more rx' =>
      let r := recvUntil skip rx' rest
      { r with seen := .byte b :: r.seen }
    | .complete m =>
      if skip m then
        let r := recvUntil skip .outside rest
        { r with seen := .byte b :: r.seen }
      else ⟨some m, rest, [.byte b]⟩

/-- A wait on the open channel: the bytes it consumes leave the channel's script (spec/20_memory.md R65, R66). -/
def State.receive (t : TimeoutClass) (skip : Bytes → Bool) (s : State) : Option Bytes × State :=
  match s.openChan with
  | none => (none, s)
  | some c =>
    let r := recvUntil skip .outside ((scriptOf c s.channels).getD [])
    (r.msg, { s with channels := setScript c r.rest s.channels, trace := s.trace ++ r.seen.map (.recv t) })

/-- The end of a channel operation: an error leaves `SEQ` at `FAILED` (R28, R305, R314); the channel is closed (R343).
-/
def finishChannel (r : Run Output) : State :=
  match r with
  | .ok o s => (s.closePort).returnOk o
  | .raised e s => ((s.setSeq .failed).closePort).returnError e

/-! ## Message fields -/

/-- `M` is manufacturer-matching (spec/44_format_converter.md R212). -/
def isMfr (m : Bytes) : Bool := decide (7 ≤ m.length) && (m.drop 1).take 3 == Config.manuf

/-- `CLASSIFY(M)` (R264): the command byte, or `none` for FOREIGN. -/
def classify (m : Bytes) : Option Byte := if isMfr m then some (byteAt m 5) else none

/-- `M[6 .. len(M)-1)` (R212). -/
def payloadOf (m : Bytes) : Bytes := (m.drop 6).dropLast

/-- The `info` of an `UnexpectedResponse` to a message: its command, or that it is foreign (R312). -/
def classInfo (m : Bytes) : Info :=
  match classify m with
  | some c => .command c
  | none => .foreign

end Sys2Proof.Machine
end

