-- ==== Sys2Proof/Machine/Flags.lean ====
section
/-! DEFINITION. The block has no condition codes; its flags are `WARNED`, `FSTATE` and `FAMILY` (spec/10_state.md R26).
Here stand the framer, which computes the first two (spec/44_format_converter.md R210, R211), and the family check,
which computes the third (R212, R221). -/

namespace Sys2Proof.Machine

/-- What the framer has to show: `WARNED`, the events it emitted, and the messages it completed. -/
structure Framed where
  warned : Bool
  events : List Event
  msgs : List Bytes
deriving DecidableEq, Repr

/-- The framer at its start has warned of nothing and completed nothing (R210). -/
def Framed.start : Framed := ⟨false, [], []⟩

/-- `STRAY(i)` (R211): the first stray byte sets `WARNED` and emits `WARN_STRAY(i)`; a later one does nothing. -/
def Framed.stray (i : Nat) (f : Framed) : Framed :=
  if f.warned then f else ⟨true, f.events ++ [.warnStray i], f.msgs⟩

/-- `msgs <- msgs ++ [m]` (R210). -/
def Framed.complete (m : Bytes) (f : Framed) : Framed := ⟨f.warned, f.events, f.msgs ++ [m]⟩

/-- The framer at the end of `IN` or at its error: `FSTATE`, `FBUF`, what it framed, and the error. -/
structure FrameRun where
  fstate : FrameState
  fbuf : Bytes
  framed : Framed
  err : Option Err
deriving DecidableEq, Repr

/-- The framer over the rest of `IN`, whose next byte has index `i`, from `FSTATE`, `FBUF` and what it framed (R210). -/
def frameFrom (i : Nat) (fstate : FrameState) (fbuf : Bytes) (f : Framed) : Bytes → FrameRun
  | [] =>
    match fstate with
    | .inside => ⟨.inside, fbuf, f, some ⟨.formatError, .index i⟩⟩
    | .outside => ⟨.outside, fbuf, f, none⟩
  | b :: rest =>
    match fstate with
    | .outside =>
      if b = Config.sox then frameFrom (i + 1) .inside [b] f rest
      else frameFrom (i + 1) .outside fbuf (f.stray i) rest
    | .inside =>
      if b = Config.eox then frameFrom (i + 1) .outside (fbuf ++ [b]) (f.complete (fbuf ++ [b])) rest
      else if 0x80 ≤ b.toNat then ⟨.inside, fbuf, f, some ⟨.formatError, .index i⟩⟩
      else frameFrom (i + 1) .inside (fbuf ++ [b]) f rest

/-- The framer's registers and events into the datapath. -/
def State.putFrame (r : FrameRun) (s : State) : State :=
  { s with
    dp := { s.dp with
      fstate := r.fstate, fbuf := r.fbuf, warned := r.framed.warned, events := r.framed.events } }

/-- The message list of `FRAME(IN)` (R210), used by `FRAME`, `SYX2DUMP` and `UPLOAD`. -/
def frameIn (input : Bytes) (s : State) : Run (List Bytes) :=
  let r := frameFrom 0 .outside [] Framed.start input
  match r.err with
  | none => .ok r.framed.msgs (s.putFrame r)
  | some e => .raised e (s.putFrame r)

/-- The family of a firmware-family message by its command; `Family.none` for every other message (R212, R214). -/
def familyOf (m : Bytes) : Family :=
  match classify m with
  | some c => if c = Config.cmdWrite then .write else if c = Config.cmdRead then .readback else .none
  | none => .none

/-- The family check of a firmware-family message of family `fam` (R221). -/
def checkFamily (fam : Family) (s : State) : Run Unit :=
  match s.dp.family with
  | .none => .ok () { s with dp := { s.dp with family := fam } }
  | .write =>
    if fam = .write then .ok () s else .raised ⟨.formatError, .check .mixedFamilies⟩ s
  | .readback =>
    if fam = .readback then .ok () s else .raised ⟨.formatError, .check .mixedFamilies⟩ s

end Sys2Proof.Machine
end

