-- ==== Sys2Proof/Machine/Operands.lean ====
section
/-! DEFINITION. The registers an operation reads: the parameter registers (spec/10_state.md R22) and the configuration
registers (R23, spec/70_reset_and_hazards.md R342), and the host's writes to both. -/

namespace Sys2Proof.Machine

/-- The descriptor's operands are written into the parameter registers before the operation reads them (R20, R22). -/
def State.latch (f : ParamRegs → ParamRegs) (s : State) : State := { s with par := f s.par }

/-- A host write of one parameter register (R22). -/
def ParamRegs.write (w : ParamWrite) (p : ParamRegs) : ParamRegs :=
  match w with
  | .seed v => { p with seed := some v }
  | .bytein v => { p with bytein := some v }
  | .ckin v => { p with ckin := some v }
  | .word v => { p with word := some v }
  | .woff v => { p with woff := some v }
  | .model v => { p with model := some v }
  | .cmd v => { p with cmd := some v }
  | .base v => { p with base := some v }
  | .pidx v => { p with pidx := some v }
  | .start v => { p with start := some v }
  | .count v => { p with count := some v }
  | .label v => { p with label := some v }
  | .chan v => { p with chan := some v }
  | .cands v => { p with cands := some v }

/-- A host write of one configuration register (R23). -/
def ConfigRegs.write (w : ConfigWrite) (c : ConfigRegs) : ConfigRegs :=
  match w with
  | .transportKey v => { c with transportKey := some v }
  | .osT1 v => { c with osT1 := some v }
  | .osT2 v => { c with osT2 := some v }
  | .probeRequest v => { c with probeRequest := some v }
  | .readRequest v => { c with readRequest := some v }
  | .rebootLabel v => { c with rebootLabel := some v }
  | .seedOf v => { c with seedOf := v }
  | .addrLimit v => { c with addrLimit := v }
  | .ackCiphered v => { c with ackCiphered := v }
  | .ckBitOrder v => { c with ckBitOrder := v }

/-- The operation `opc` on the parameter registers as they stand; `none` when it reads one that was never written
(R22, R32). -/
def instrOfParams (opc : Byte) (p : ParamRegs) : Option Instr :=
  match opc.toNat with
  | 0x01 => some .expand
  | 0x02 => some .pack
  | 0x03 => some .tcipher
  | 0x04 => p.seed.map .wcipher
  | 0x05 => p.bytein.bind fun b => p.ckin.map (.ckupd b)
  | 0x06 => some .ckpage
  | 0x07 => p.word.bind fun w => p.woff.map (.wordcode w)
  | 0x08 => some .icksum
  | 0x09 => some .dump2os
  | 0x0A => some .os2dump
  | 0x0B => some .frame
  | 0x0C => some .pagedec
  | 0x0D => p.pidx.map .pageenc
  | 0x0E => p.model.bind fun m => p.cmd.map (.msgbuild m)
  | 0x0F => some .syx2dump
  | 0x10 => p.base.bind fun b => p.model.map (.dump2syx b)
  | 0x11 => some .syx2os
  | 0x12 => p.base.bind fun b => p.model.map (.os2syx b)
  | 0x13 => p.chan.map .probe
  | 0x14 => p.cands.map .detect
  | 0x15 => p.chan.map .upload
  | 0x16 =>
    p.chan.bind fun c => p.start.bind fun a => p.count.bind fun n => p.model.map (.retrieve c a n)
  | 0x17 => p.chan.bind fun c => p.model.bind fun m => p.label.map (.display c m)
  | _ => some (decodeReserved opc)

/-- `SEED_OF(A)` (spec/41_stream_cipher.md R147): the entry for the address, else the default `A mod 2^16`. -/
def SeedOf.at (f : SeedOf) (a : Addr) : Half := (f.entries.lookup a).getD (a.setWidth 16)

/-- `READ_REQUEST(model, pidx)` (spec/30_encoding.md R89). -/
def ReadRequest.at (f : ReadRequest) (model : Byte) (pidx : Half) : Bytes :=
  match f.entries.find? (fun e => e.model == model && e.pidx == pidx) with
  | some e => e.payload
  | none => f.fallback

/-- Run an operation that reads `TRANSPORT_KEY`; never configured, it is refused (R342). -/
def State.withKey (s : State) (run : Vector Byte 13 → State) : State :=
  match s.cfg.transportKey with
  | none => s.refuse
  | some key => run key

/-- Run an operation that reads `OS_T1` and `OS_T2` (R342). -/
def State.withTables (s : State) (run : Vector Word 15 → Vector Word 14 → State) : State :=
  match s.cfg.osT1, s.cfg.osT2 with
  | some t1, some t2 => run t1 t2
  | _, _ => s.refuse

/-- Run an operation that reads `PROBE_REQUEST` (R342). -/
def State.withProbeRequest (s : State) (run : Bytes → State) : State :=
  match s.cfg.probeRequest with
  | none => s.refuse
  | some req => run req

/-- Run an operation that reads `READ_REQUEST` (R342). -/
def State.withReadRequest (s : State) (run : ReadRequest → State) : State :=
  match s.cfg.readRequest with
  | none => s.refuse
  | some f => run f

end Sys2Proof.Machine
end

