-- ==== Sys2Proof/Machine/BitTranscoder.lean ====
section
/-! DEFINITION. BitTranscoder: `EXPAND` and `PACK` (spec/40_bit_transcoder.md). -/

namespace Sys2Proof.Machine

/-- Plain byte `j` of a group: `E[j] | (E[7][6 - j] << 7)` (R120, R121, spec/30_encoding.md R92). -/
def expandByte (flags : Byte) (j : Nat) (e : Byte) : Byte :=
  e ||| (if flags.getLsbD (6 - j) then 0x80 else 0x00)

/-- `EXPAND` of groups of eight bytes (R120). -/
def expand : Bytes → Bytes
  | e0 :: e1 :: e2 :: e3 :: e4 :: e5 :: e6 :: e7 :: rest =>
    [expandByte e7 0 e0, expandByte e7 1 e1, expandByte e7 2 e2, expandByte e7 3 e3, expandByte e7 4 e4,
      expandByte e7 5 e5, expandByte e7 6 e6] ++ expand rest
  | _ => []

/-- The flags byte of a group: bit `k` is bit 7 of byte `6 - k` (R122). -/
def packFlags (p0 p1 p2 p3 p4 p5 p6 : Byte) : Byte :=
  0#1 ++ p0.extractLsb' 7 1 ++ p1.extractLsb' 7 1 ++ p2.extractLsb' 7 1 ++ p3.extractLsb' 7 1 ++
    p4.extractLsb' 7 1 ++ p5.extractLsb' 7 1 ++ p6.extractLsb' 7 1

/-- `PACK` of groups of seven bytes (R122). -/
def pack : Bytes → Bytes
  | p0 :: p1 :: p2 :: p3 :: p4 :: p5 :: p6 :: rest =>
    [p0 &&& 0x7F, p1 &&& 0x7F, p2 &&& 0x7F, p3 &&& 0x7F, p4 &&& 0x7F, p5 &&& 0x7F, p6 &&& 0x7F,
      packFlags p0 p1 p2 p3 p4 p5 p6] ++ pack rest
  | _ => []

/-- `EXPAND` with its length check (R120). -/
def expandRun (input : Bytes) (s : State) : Run Bytes :=
  if input.length % 8 ≠ 0 then .raised ⟨.formatError, .check .expandLength⟩ s else .ok (expand input) s

/-- `PACK` with its length check (R122). -/
def packRun (input : Bytes) (s : State) : Run Bytes :=
  if input.length % 7 ≠ 0 then .raised ⟨.formatError, .check .packLength⟩ s else .ok (pack input) s

/-- An operation whose only output is `OUT`. -/
def onlyOut (out : Bytes) (s : State) : Run Output := .ok (Output.ofBytes out) s

/-- `EXPAND` (R120). -/
def execExpand (s : State) : Host.Outcome State Fault Refusal :=
  let s := s.latch fun p => { p with opc := some 0x01 }
  .next (finish ((expandRun s.inBuf s.begin).andThen onlyOut))

/-- `PACK` (R122). -/
def execPack (s : State) : Host.Outcome State Fault Refusal :=
  let s := s.latch fun p => { p with opc := some 0x02 }
  .next (finish ((packRun s.inBuf s.begin).andThen onlyOut))

end Sys2Proof.Machine
end

