-- ==== Sys2Proof/Machine/OsImageCodec.lean ====
section
/-! DEFINITION. OsImageCodec: `WORDCODE`, `ICKSUM`, `DUMP2OS` and `OS2DUMP` (spec/43_os_image_codec.md). -/

namespace Sys2Proof.Machine

/-- `WORDCODE` of one word at a word offset (R180, spec/10_state.md R33). -/
def wordcode (t1 : Vector Word 15) (t2 : Vector Word 14) (w : Word) (off : Nat) : Word :=
  w ^^^ t1[off % 15]'(Nat.mod_lt _ (by decide)) ^^^ t2[off % 14]'(Nat.mod_lt _ (by decide))

/-- `ISTEP`, the rotation of the 33-bit mask (R182). -/
def istep (m : BitVec 33) : BitVec 33 :=
  if m.getLsbD 0 then (m >>> 1) ||| 0x100000000 else m >>> 1

/-- `DMAGIC` and `ISUM`. -/
structure ImageSum where
  dmagic : BitVec 33
  isum : Word
deriving DecidableEq, Repr

/-- `DMAGIC` and `ISUM` before the first word (R184). -/
def ImageSum.start : ImageSum := ⟨Config.dmagicInit, 0⟩

/-- One word into the image checksum (R184); the sum is kept in 32 bits (spec/00_scope.md R18). -/
def ImageSum.add (a : ImageSum) (w : Word) : ImageSum :=
  ⟨istep a.dmagic, a.isum + (istep a.dmagic ^^^ w.setWidth 33).setWidth 32⟩

/-- `DMAGIC` and `ISUM` after the words of a sequence, from given values (R184). -/
def imageSumFrom (a : ImageSum) : List Word → ImageSum
  | [] => a
  | w :: rest =>
    strictly (a.add w).dmagic fun m => strictly (a.add w).isum fun t => imageSumFrom ⟨m, t⟩ rest

/-- `DMAGIC` and `ISUM` after a word sequence (R184). -/
def imageSum (ws : List Word) : ImageSum := imageSumFrom ImageSum.start ws

/-- The image checksum of a word sequence (R184). -/
def imageChecksum (ws : List Word) : Word := (imageSum ws).isum

/-- The image checksum writes `DMAGIC` and `ISUM` (R184). -/
def State.putImageSum (a : ImageSum) (s : State) : State :=
  { s with dp := { s.dp with dmagic := a.dmagic, isum := a.isum } }

/-- `WOFS` of the last word coded (R187, R189). -/
def State.putWofs (o : Nat) (s : State) : State := { s with dp := { s.dp with wofs := BitVec.ofNat 32 o } }

/-- The 32-bit words of a sequence, `le32` each (R184, R185). -/
def toWords : Bytes → List Word
  | b0 :: b1 :: b2 :: b3 :: rest => le32 b0 b1 b2 b3 :: toWords rest
  | _ => []

/-- The bytes of a word sequence, `put32` each (R187). -/
def ofWords (ws : List Word) : Bytes := ws.flatMap put32

/-- `WORDCODE` of successive words at the offsets from `off` (R187, R189). -/
def codeWords (t1 : Vector Word 15) (t2 : Vector Word 14) (off : Nat) : List Word → List Word
  | [] => []
  | w :: rest => wordcode t1 t2 w off :: codeWords t1 t2 (off + 1) rest

/-- The size check (R186). -/
def sizeInRange (size : Nat) : Bool :=
  decide (0 < size) && decide (align4 size + Config.osSizeBias ≤ Config.osSizeLimit)

/-- `le32(B, i)` of a sequence whose length the caller has checked (spec/00_scope.md R11). -/
def wordAt (bs : Bytes) (i : Nat) : Word :=
  le32 (byteAt bs i) (byteAt bs (i + 1)) (byteAt bs (i + 2)) (byteAt bs (i + 3))

/-- `DUMP2OS` on a dump (R187). -/
def dump2osRun (t1 : Vector Word 15) (t2 : Vector Word 14) (dump : Bytes) (s : State) : Run Bytes :=
  if dump.length < Config.osHdrLen then .raised ⟨.formatError, .check .shortHeader⟩ s
  else
    let size := (wordcode t1 t2 (wordAt dump 0) 0).toNat
    let ck := wordcode t1 t2 (wordAt dump 4) 1
    if sizeInRange size = false then .raised ⟨.sizeOutOfRange, .size size⟩ s
    else if dump.length < Config.osHdrLen + align4 size then .raised ⟨.formatError, .check .shortData⟩ s
    else
      let ws := codeWords t1 t2 2 (toWords ((dump.drop Config.osHdrLen).take (align4 size)))
      let s := (s.putWofs (align4 size / 4 + 1)).putImageSum (imageSum ws)
      if imageChecksum ws ≠ ck then .raised ⟨.checksumMismatch, .checksum ck⟩ s
      else .ok ((ofWords ws).take size) s

/-- `OS2DUMP` on an image (R189, R190, R192). -/
def os2dumpRun (t1 : Vector Word 15) (t2 : Vector Word 14) (image : Bytes) (s : State) : Run Bytes :=
  let size := image.length
  if sizeInRange size = false then .raised ⟨.sizeOutOfRange, .size size⟩ s
  else
    let ws := toWords (image ++ List.replicate (align4 size - size) Config.osFill)
    let body := put32 (wordcode t1 t2 (BitVec.ofNat 32 size) 0) ++
      put32 (wordcode t1 t2 (imageChecksum ws) 1) ++ ofWords (codeWords t1 t2 2 ws)
    .ok (body ++ List.replicate (alignUp body.length 4096 - body.length) Config.osFill)
      ((s.putImageSum (imageSum ws)).putWofs (align4 size / 4 + 1))

/-- `ICKSUM` on bytes (R185). -/
def icksumRun (input : Bytes) (s : State) : Run Bytes :=
  if input.length % 4 ≠ 0 then .raised ⟨.formatError, .check .wordLength⟩ s
  else .ok (put32 (imageChecksum (toWords input))) (s.putImageSum (imageSum (toWords input)))

/-- `WORDCODE` (R180). -/
def execWordcode (word woff : Word) (s : State) : Host.Outcome State Fault Refusal :=
  let s := s.latch fun p => { p with opc := some 0x07, word := some word, woff := some woff }
  .next (s.withTables fun t1 t2 => finish (onlyOut (put32 (wordcode t1 t2 word woff.toNat)) s.begin))

/-- `ICKSUM` (R185). -/
def execIcksum (s : State) : Host.Outcome State Fault Refusal :=
  let s := s.latch fun p => { p with opc := some 0x08 }
  .next (finish ((icksumRun s.inBuf s.begin).andThen onlyOut))

/-- `DUMP2OS` (R187). -/
def execDump2os (s : State) : Host.Outcome State Fault Refusal :=
  let s := s.latch fun p => { p with opc := some 0x09 }
  .next (s.withTables fun t1 t2 => finish ((dump2osRun t1 t2 s.inBuf s.begin).andThen onlyOut))

/-- `OS2DUMP` (R189). -/
def execOs2dump (s : State) : Host.Outcome State Fault Refusal :=
  let s := s.latch fun p => { p with opc := some 0x0A }
  .next (s.withTables fun t1 t2 => finish ((os2dumpRun t1 t2 s.inBuf s.begin).andThen onlyOut))

end Sys2Proof.Machine
end

