-- ==== Sys2Proof/Machine/PageChecksum.lean ====
section
/-! DEFINITION. PageChecksum: `CKUPD` and `CKPAGE` (spec/42_page_checksum.md). -/

namespace Sys2Proof.Machine

/-- `CKROUND(d)` (R161): the test of bit 0 comes after the XOR. -/
def ckRound (d : Bool) (ck : BitVec 9) : BitVec 9 :=
  let x := if (d ^^ ck.getLsbD 0) = false then ck ^^^ Config.ckpoly else ck
  (if x.getLsbD 0 then x ||| 0x100 else x) >>> 1

/-- The order in which the bits of a byte enter the rounds (R163). -/
def bitIndices : Config.BitOrder → List Nat
  | .lsbFirst => [0, 1, 2, 3, 4, 5, 6, 7]
  | .msbFirst => [7, 6, 5, 4, 3, 2, 1, 0]

/-- The eight rounds of one byte (R162). -/
def ckByteIn (order : Config.BitOrder) (b : Byte) (ck : BitVec 9) : BitVec 9 :=
  (bitIndices order).foldl (fun c i => ckRound (b.getLsbD i) c) ck

/-- `CKUPD` under a bit order: one byte into a checksum of eight bits, as the register `CK` it leaves (R162, R163). -/
def ckByte (order : Config.BitOrder) (b : Byte) (ckin : Byte) : BitVec 9 := ckByteIn order b (ckin.setWidth 9)

/-- The register `CK` after the bytes of a sequence, from a register value (R164). -/
def ckFrom (order : Config.BitOrder) (ck : BitVec 9) : Bytes → BitVec 9
  | [] => ck
  | b :: rest => strictly (ckByte order b (ck.setWidth 8)) fun ck' => ckFrom order ck' rest

/-- `CK` after `CKPAGE`, from 0 (R164). -/
def ckAfter (order : Config.BitOrder) (bs : Bytes) : BitVec 9 := ckFrom order 0 bs

/-- `CKPAGE`: the checksum byte of a sequence (R164). -/
def ckPage (order : Config.BitOrder) (bs : Bytes) : Byte := (ckAfter order bs).setWidth 8

/-- The checksum operations write `CK` (R162, R164). -/
def State.putCk (ck : BitVec 9) (s : State) : State := { s with dp := { s.dp with ck := ck } }

/-- `CKUPD` (R162). -/
def execCkupd (bytein ckin : Byte) (s : State) : Host.Outcome State Fault Refusal :=
  let s := s.latch fun p => { p with opc := some 0x05, bytein := some bytein, ckin := some ckin }
  let ck := ckByte s.cfg.ckBitOrder bytein ckin
  .next (finish (onlyOut [ck.setWidth 8] (s.begin.putCk ck)))

/-- `CKPAGE` (R164). -/
def execCkpage (s : State) : Host.Outcome State Fault Refusal :=
  let s := s.latch fun p => { p with opc := some 0x06 }
  let order := s.cfg.ckBitOrder
  .next (finish (onlyOut [ckPage order s.inBuf] (s.begin.putCk (ckAfter order s.inBuf))))

end Sys2Proof.Machine
end

