-- ==== Sys2Proof/Machine/StreamCipher.lean ====
section
/-! DEFINITION. StreamCipher: `TCIPHER` and `WCIPHER` (spec/41_stream_cipher.md). -/

namespace Sys2Proof.Machine

/-! ## The transport cipher -/

/-- `TKI <- (TKI + 1) mod 13` (R140). -/
def nextTki (i : Fin 13) : Fin 13 := ⟨(i.val + 1) % 13, Nat.mod_lt _ (by decide)⟩

/-- The loop of `TCIPHER` from key index `i`: its output and the key index after it (R140). -/
def tcipherFrom (key : Vector Byte 13) (i : Fin 13) : Bytes → Bytes × Fin 13
  | [] => ([], i)
  | b :: rest =>
    let r := tcipherFrom key (nextTki i) rest
    ((b ^^^ key[i]) :: r.1, r.2)

/-- `TCIPHER` of a plain payload, key index from 0 (R140, spec/30_encoding.md R83). -/
def tcipher (key : Vector Byte 13) (bs : Bytes) : Bytes := (tcipherFrom key 0 bs).1

/-- `TKI` after `TCIPHER` of a plain payload (R140). -/
def tkiAfter (key : Vector Byte 13) (bs : Bytes) : Fin 13 := (tcipherFrom key 0 bs).2

/-- `TCIPHER` writes `TKI` (R140). -/
def State.putTki (i : Fin 13) (s : State) : State := { s with dp := { s.dp with tki := i } }

/-! ## The write cipher -/

/-- Seeding: a zero seed selects `0x545A` (R142). -/
def wseed (seed : Half) : Half := if seed = 0 then Config.wseedDefault else seed

/-- `WSTEP` (R144). -/
def wstep (w : Half) : Half := (if w.getLsbD 0 then w ^^^ Config.wpoly else w) >>> 1

/-- The loop of `WCIPHER` from register value `w`: its output and the register after it (R145). -/
def wcipherFrom (w : Half) : Bytes → Bytes × Half
  | a :: b :: rest =>
    strictly (wstep w) fun w' =>
      let r := wcipherFrom w' rest
      ((a ^^^ byteOf 0 w') :: (b ^^^ byteOf 1 w') :: r.1, r.2)
  | _ => ([], w)

/-- `WCIPHER` of an even-length sequence (R145). -/
def wcipher (seed : Half) (bs : Bytes) : Bytes := (wcipherFrom (wseed seed) bs).1

/-- `WREG` after `WCIPHER` (R145). -/
def wregAfter (seed : Half) (bs : Bytes) : Half := (wcipherFrom (wseed seed) bs).2

/-- `WCIPHER` writes `WREG` (R145). -/
def State.putWreg (w : Half) (s : State) : State := { s with dp := { s.dp with wreg := w } }

/-- `WCIPHER` with its length check (R145). -/
def wcipherRun (seed : Half) (input : Bytes) (s : State) : Run Bytes :=
  if input.length % 2 ≠ 0 then .raised ⟨.formatError, .check .oddLength⟩ s
  else .ok (wcipher seed input) (s.putWreg (wregAfter seed input))

/-! ## The operations -/

/-- `TCIPHER` (R140). -/
def execTcipher (s : State) : Host.Outcome State Fault Refusal :=
  let s := s.latch fun p => { p with opc := some 0x03 }
  .next (s.withKey fun key =>
    finish (onlyOut (tcipher key s.inBuf) (s.begin.putTki (tkiAfter key s.inBuf))))

/-- `WCIPHER` (R145). -/
def execWcipher (seed : Half) (s : State) : Host.Outcome State Fault Refusal :=
  let s := s.latch fun p => { p with opc := some 0x04, seed := some seed }
  .next (finish ((wcipherRun seed s.inBuf s.begin).andThen onlyOut))

end Sys2Proof.Machine
end

