-- ==== Sys2Proof/Machine/FormatConverter.lean ====
section
/-! DEFINITION. FormatConverter: `FRAME`, `PAGEDEC`, `PAGEENC`, `MSGBUILD`, `SYX2DUMP`, `DUMP2SYX`, `SYX2OS` and
`OS2SYX` (spec/44_format_converter.md). -/

namespace Sys2Proof.Machine

/-! ## The page codec -/

/-- The plain payload that a payload carries, `TCIPHER(EXPAND(payload))` (spec/30_encoding.md R83). -/
def plainOf (key : Vector Byte 13) (payload : Bytes) : Bytes := tcipher key (expand payload)

/-- The payload that carries a plain payload, `PACK(TCIPHER(plain))` (R83). -/
def carry (key : Vector Byte 13) (plain : Bytes) : Bytes := pack (tcipher key plain)

/-- The page index of a plain payload, its first two bytes, most significant first (spec/30_encoding.md R84, R87). -/
def pidxOf (plain : Bytes) : Half := be16 (byteAt plain 0) (byteAt plain 1)

/-- The device address of a page index (R217, spec/30_encoding.md R92). -/
def addrOfPidx (pidx : Half) : Addr := pidx ++ 0#8

/-- The page index of a device address, `A >> 8` (spec/20_memory.md R54). -/
def pidxOfAddr (a : Nat) : Half := BitVec.ofNat 16 (a / 256)

/-- `PAGEDEC` on a payload (R216). -/
def pagedecRun (key : Vector Byte 13) (payload : Bytes) (s : State) : Run Bytes :=
  if payload.length ≠ Config.pagePayloadLen then .raised ⟨.formatError, .check .pagePayloadLength⟩ s
  else
    let plain := plainOf key payload
    let order := s.cfg.ckBitOrder
    let s := (s.putTki (tkiAfter key (expand payload))).putCk (ckAfter order (plain.drop 3))
    if ckPage order (plain.drop 3) ≠ byteAt plain 2 then .raised ⟨.checksumMismatch, .page (pidxOf plain)⟩ s
    else .ok plain s

/-- The plain payload of a page: index, most significant byte first, checksum, data (spec/30_encoding.md R84). -/
def pagePlain (order : Config.BitOrder) (pidx : Half) (data : Bytes) : Bytes :=
  byteOf 1 pidx :: byteOf 0 pidx :: ckPage order data :: data

/-- The payload of a page (R218). -/
def pagePayload (order : Config.BitOrder) (key : Vector Byte 13) (pidx : Half) (data : Bytes) : Bytes :=
  carry key (pagePlain order pidx data)

/-- `PAGEENC` writes `CK` and `TKI` (R218). -/
def State.putPage (key : Vector Byte 13) (pidx : Half) (data : Bytes) (s : State) : State :=
  (s.putCk (ckAfter s.cfg.ckBitOrder data)).putTki (tkiAfter key (pagePlain s.cfg.ckBitOrder pidx data))

/-- `PAGEENC` on page data (R218). -/
def pageencRun (key : Vector Byte 13) (pidx : Half) (data : Bytes) (s : State) : Run Bytes :=
  if data.length ≠ Config.pageSize then .raised ⟨.formatError, .check .pageDataLength⟩ s
  else .ok (pagePayload s.cfg.ckBitOrder key pidx data) (s.putPage key pidx data)

/-- `MSGBUILD` on a payload (R219). -/
def msgbuildRun (model cmd : Byte) (payload : Bytes) (s : State) : Run Bytes :=
  if !isDataByte model || !isDataByte cmd then .raised ⟨.formatError, .check .headerByte⟩ s
  else if payload.length % 8 ≠ 0 || !payload.all isDataByte then
    .raised ⟨.formatError, .check .payloadGroups⟩ s
  else .ok (messageBytes model cmd payload) s

/-! ## SYX2DUMP -/

/-- The contiguity check (R222): exact on unbounded integers (spec/00_scope.md R17). -/
def checkContiguous (a : Addr) (s : State) : Run Unit :=
  match s.dp.lastAddr with
  | none => .ok () s
  | some l =>
    if a.toNat = l.toNat + 0x100 then .ok () s else .raised ⟨.addressDiscontinuity, .address a⟩ s

/-- `DBASE` keeps the first accepted address, `LASTADDR` takes the last (R220). -/
def State.acceptPage (a : Addr) (s : State) : State :=
  { s with dp := { s.dp with dbase := some (s.dp.dbase.getD a), lastAddr := some a } }

/-- One firmware-family message of `SYX2DUMP`: family, payload, checksum, contiguity, in this order (R220, R226). -/
def dumpPage (key : Vector Byte 13) (m : Bytes) (s : State) : Run Bytes :=
  (checkFamily (familyOf m) s).andThen fun _ s =>
    (pagedecRun key (payloadOf m) s).andThen fun plain s =>
      (checkContiguous (addrOfPidx (pidxOf plain)) s).andThen fun _ s =>
        .ok (plain.drop 3) (s.acceptPage (addrOfPidx (pidxOf plain)))

/-- The message loop of `SYX2DUMP` (R220); messages of no family are skipped (R214). -/
def dumpMsgs (key : Vector Byte 13) : List Bytes → State → Run Bytes
  | [], s => .ok [] s
  | m :: rest, s =>
    if familyOf m = .none then dumpMsgs key rest s
    else
      (dumpPage key m s).andThen fun d s =>
        (dumpMsgs key rest s).andThen fun ds s => .ok (d ++ ds) s

/-- The keystream of `n` pairs from a register value, and the register after it (R224, spec/41_stream_cipher.md R144).
-/
def keystream (w : Half) : Nat → Bytes × Half
  | 0 => ([], w)
  | n + 1 =>
    strictly (wstep w) fun w' =>
      let r := keystream w' n
      (byteOf 0 w' :: byteOf 1 w' :: r.1, r.2)

/-- The pairs of a sector: the loop `q = 0 .. 2047` (R224). -/
def sectorPairs : Nat := 2048

/-- The write-cipher register as the sector at address `a` seeds it (R142, R147). -/
def sectorSeed (seedOf : SeedOf) (a : Nat) : Half := wseed (seedOf.at (BitVec.ofNat 24 a))

/-- `WUNDO` over `n` sectors, the data beginning at device address `a`: each sector's bytes against its keystream,
aligned to the sector's first byte; and `WREG` after the last (R224). -/
def wundoFrom (seedOf : SeedOf) : Nat → Nat → Bytes → Half → Bytes × Half
  | 0, _, _, w => ([], w)
  | n + 1, a, d, _ =>
    let skip := a % 4096
    let ks := keystream (sectorSeed seedOf (a - skip)) sectorPairs
    let r := wundoFrom seedOf n (a + (4096 - skip)) (d.drop (4096 - skip)) ks.2
    (List.zipWith (· ^^^ ·) (d.take (4096 - skip)) (ks.1.drop skip) ++ r.1, r.2)

/-- How many sectors the data of length `len` at address `a` lies in (R224). -/
def sectorCount (a len : Nat) : Nat := if len = 0 then 0 else (a % 4096 + len + 4095) / 4096

/-- `WUNDO(DBASE, D)` (R224). -/
def wundo (seedOf : SeedOf) (base : Addr) (d : Bytes) (s : State) : Bytes × State :=
  let r := wundoFrom seedOf (sectorCount base.toNat d.length) base.toNat d s.dp.wreg
  (r.1, s.putWreg r.2)

/-- The end of `SYX2DUMP`: the no-page check, and the write cipher undone for the write family (R220, R223 to R225). -/
def dumpFinish (d : Bytes) (s : State) : Run Output :=
  match s.dp.family with
  | .none => .raised ⟨.formatError, .check .noFirmwarePage⟩ s
  | .readback => .ok ⟨d, s.dp.dbase, none, none⟩ s
  | .write =>
    let r := wundo s.cfg.seedOf (s.dp.dbase.getD 0) d s
    .ok ⟨r.1, s.dp.dbase, none, none⟩ r.2

/-- `SYX2DUMP` on a stream (R220). -/
def syx2dumpRun (key : Vector Byte 13) (stream : Bytes) (s : State) : Run Output :=
  (frameIn stream s).andThen fun msgs s => (dumpMsgs key msgs s).andThen dumpFinish

/-! ## DUMP2SYX -/

/-- The `n` page messages of a sector from page address `a`, with the registers `PAGEENC` writes (R230). -/
def pageMsgs (key : Vector Byte 13) (model : Byte) : Nat → Nat → Bytes → State → Bytes × State
  | 0, _, _, s => ([], s)
  | n + 1, a, c, s =>
    let data := c.take Config.pageSize
    let r := pageMsgs key model n (a + Config.pageSize) (c.drop Config.pageSize) (s.putPage key (pidxOfAddr a) data)
    (messageBytes model Config.cmdWrite (pagePayload s.cfg.ckBitOrder key (pidxOfAddr a) data) ++ r.1, r.2)

/-- The `n` sectors of a dump from sector address `a` (R230). -/
def sectorMsgs (key : Vector Byte 13) (model : Byte) : Nat → Nat → Bytes → State → Bytes × State
  | 0, _, _, s => ([], s)
  | n + 1, a, d, s =>
    let seed := s.cfg.seedOf.at (BitVec.ofNat 24 a)
    let chunk := d.take Config.sectorSize
    let p := pageMsgs key model 16 a (wcipher seed chunk) (s.putWreg (wregAfter seed chunk))
    let r := sectorMsgs key model n (a + Config.sectorSize) (d.drop Config.sectorSize) p.2
    (p.1 ++ r.1, r.2)

/-- A dump filled with zeros to whole sectors (R230). -/
def padDump (dump : Bytes) : Bytes :=
  dump ++ List.replicate (alignUp dump.length Config.sectorSize - dump.length) Config.dumpFill

/-- `DUMP2SYX` on a dump: its checks in the order of spec/60_exceptions.md R313, then its stream (R230). -/
def dump2syxRun (key : Vector Byte 13) (base : Addr) (model : Byte) (dump : Bytes) (s : State) : Run Bytes :=
  let d := padDump dump
  let top := base.toNat + d.length
  if base.toNat % Config.baseAlign ≠ 0 ∨ base.toNat < Config.baseFloor then
    .raised ⟨.formatError, .check .baseAddress⟩ s
  else if isDataByte model = false then .raised ⟨.formatError, .check .modelByte⟩ s
  else if s.cfg.addrLimit < top ∨ 2 ^ 24 < top then .raised ⟨.formatError, .check .addressRange⟩ s
  else if base.toNat ≤ Config.sentinelAddr ∧ Config.sentinelAddr < top then
    .raised ⟨.formatError, .check .sentinelPage⟩ s
  else
    let r := sectorMsgs key model (d.length / Config.sectorSize) base.toNat d s
    .ok r.1 r.2

/-! ## The operations -/

/-- `FRAME` (R210). -/
def execFrame (s : State) : Host.Outcome State Fault Refusal :=
  let s := s.latch fun p => { p with opc := some 0x0B }
  .next (finish ((frameIn s.inBuf s.begin).andThen fun msgs s => onlyOut msgs.flatten s))

/-- `PAGEDEC` (R216). -/
def execPagedec (s : State) : Host.Outcome State Fault Refusal :=
  let s := s.latch fun p => { p with opc := some 0x0C }
  .next (s.withKey fun key => finish ((pagedecRun key s.inBuf s.begin).andThen onlyOut))

/-- `PAGEENC` (R218). -/
def execPageenc (pidx : Half) (s : State) : Host.Outcome State Fault Refusal :=
  let s := s.latch fun p => { p with opc := some 0x0D, pidx := some pidx }
  .next (s.withKey fun key => finish ((pageencRun key pidx s.inBuf s.begin).andThen onlyOut))

/-- `MSGBUILD` (R219). -/
def execMsgbuild (model cmd : Byte) (s : State) : Host.Outcome State Fault Refusal :=
  let s := s.latch fun p => { p with opc := some 0x0E, model := some model, cmd := some cmd }
  .next (finish ((msgbuildRun model cmd s.inBuf s.begin).andThen onlyOut))

/-- `SYX2DUMP` (R220). -/
def execSyx2dump (s : State) : Host.Outcome State Fault Refusal :=
  let s := s.latch fun p => { p with opc := some 0x0F }
  .next (s.withKey fun key => finish (syx2dumpRun key s.inBuf s.begin))

/-- `DUMP2SYX` (R230). -/
def execDump2syx (base : Addr) (model : Byte) (s : State) : Host.Outcome State Fault Refusal :=
  let s := s.latch fun p => { p with opc := some 0x10, base := some base, model := some model }
  .next (s.withKey fun key => finish ((dump2syxRun key base model s.inBuf s.begin).andThen onlyOut))

/-- `SYX2OS`: `SYX2DUMP` then `DUMP2OS` on its output, with the base of the first (R240, spec/30_encoding.md R113). -/
def execSyx2os (s : State) : Host.Outcome State Fault Refusal :=
  let s := s.latch fun p => { p with opc := some 0x11 }
  .next (s.withKey fun key => s.withTables fun t1 t2 =>
    finish ((syx2dumpRun key s.inBuf s.begin).andThen fun o s =>
      (dump2osRun t1 t2 o.out s).andThen fun image s => .ok { o with out := image } s))

/-- `OS2SYX`: `OS2DUMP` then `DUMP2SYX` on its output (R241, spec/30_encoding.md R113). -/
def execOs2syx (base : Addr) (model : Byte) (s : State) : Host.Outcome State Fault Refusal :=
  let s := s.latch fun p => { p with opc := some 0x12, base := some base, model := some model }
  .next (s.withKey fun key => s.withTables fun t1 t2 =>
    finish ((os2dumpRun t1 t2 s.inBuf s.begin).andThen fun dump s =>
      (dump2syxRun key base model dump s).andThen onlyOut))

end Sys2Proof.Machine
end

