-- ==== Sys2Proof/Machine/DeviceChannel.lean ====
section
/-! DEFINITION. DeviceChannel: `PROBE`, `DETECT`, `UPLOAD`, `RETRIEVE` and `DISPLAY` (spec/45_device_channel.md). -/

namespace Sys2Proof.Machine

/-! ## PROBE and DETECT -/

/-- What the wait of a probe skips: the echo of the request, and foreign messages (R265, R266). -/
def probeSkips (req m : Bytes) : Bool := m == req || !isMfr m

/-- One probe of a channel up to its valid reply (R265). -/
def probeRun (req : Bytes) (c : Byte) (s : State) : Run Unit :=
  (openPort c s).andThen fun _ s =>
    match ((s.setSeq .probeWait).sendMsg req).receive .short (probeSkips req) with
    | (none, s) => .raised ⟨.deviceNotFound, .channel c⟩ s
    | (some _, s) => .ok () s

/-- The output of an identification (R265, R268). -/
def Output.ofDevice (c : Byte) : Output := ⟨[], none, none, some c⟩

/-- `SEQ <- DONE` at the end of a channel operation (R305). -/
def doneWith (o : Output) (s : State) : Run Output := .ok o (s.setSeq .done)

/-- The candidate loop of `DETECT`: the first that answers wins; a candidate's `DeviceNotFound` moves on, its channel
closed (R268, spec/60_exceptions.md R317). -/
def detectFrom (req : Bytes) : Bytes → State → Run Output
  | [], s => .raised ⟨.deviceNotFound, .none⟩ s
  | c :: rest, s =>
    match probeRun req c s with
    | .ok _ s => doneWith (Output.ofDevice c) s
    | .raised _ s => detectFrom req rest s.closePort

/-! ## UPLOAD -/

/-- `ACKTRIGGER(M)`, before the page index is looked at: a manufacturer-matching write with a page payload (R272). -/
def isPageWrite (m : Bytes) : Bool :=
  classify m == some Config.cmdWrite && (payloadOf m).length == Config.pagePayloadLen

/-- `ACKTRIGGER(M)` (R272). -/
def ackTrigger (key : Vector Byte 13) (m : Bytes) : Bool :=
  isPageWrite m && (pidxOf (plainOf key (payloadOf m))).extractLsb' 0 4 == 0xF#4

/-- `ACKTRIGGER` deciphers the payload of a page write, which writes `TKI` (R270, R272). -/
def State.putTrigger (key : Vector Byte 13) (m : Bytes) (s : State) : State :=
  if isPageWrite m then s.putTki (tkiAfter key (expand (payloadOf m))) else s

/-- What an acknowledgment wait discards: every message with command `0x34` (R276). -/
def ackSkips (m : Bytes) : Bool := classify m == some Config.cmdWrite

/-- The plain payload of an acknowledgment (R276, spec/30_encoding.md R83). -/
def ackPlain (key : Vector Byte 13) (ciphered : Bool) (payload : Bytes) : Bytes :=
  if ciphered then plainOf key payload else expand payload

/-- Deciphering an acknowledgment writes `TKI` (R276). -/
def State.putAck (key : Vector Byte 13) (payload : Bytes) (s : State) : State :=
  if s.cfg.ackCiphered then s.putTki (tkiAfter key (expand payload)) else s

/-- A message that ended an acknowledgment wait: the checks of R276 in order, then `SEQ <- UP_SEND`. -/
def acceptAck (key : Vector Byte 13) (m : Bytes) (s : State) : Run Report :=
  let p := payloadOf m
  if classify m ≠ some Config.cmdAck then .raised ⟨.unexpectedResponse, classInfo m⟩ s
  else if p.length = 0 ∨ p.length % 8 ≠ 0 then .raised ⟨.unexpectedResponse, .check .ackPayload⟩ s
  else
    let plain := ackPlain key s.cfg.ackCiphered p
    let s := s.putAck key p
    if Config.ackStatusMax < (byteAt plain 2).toNat then .raised ⟨.unexpectedResponse, .check .ackStatus⟩ s
    else .ok ⟨pidxOf plain, byteAt plain 2⟩ (s.setSeq .upSend)

/-- `WAITACK(T)` (R276). -/
def waitAck (key : Vector Byte 13) (t : TimeoutClass) (s : State) : Run Report :=
  match s.receive t ackSkips with
  | (none, s) => .raised ⟨.protocolTimeout, .none⟩ s
  | (some m, s) => acceptAck key m s

/-- `REPORTS <- REPORTS ++ [r]` (R270). -/
def State.addReport (r : Report) (s : State) : State :=
  { s with dp := { s.dp with reports := s.dp.reports ++ [r] } }

/-- The timeout class of a wait: `T_LONG` for the first of the operation (spec/60_exceptions.md R330). -/
def waitClass (first : Bool) : TimeoutClass := if first then .long else .short

/-- The message loop of `UPLOAD` (R270, R273). -/
def uploadFrom (key : Vector Byte 13) : Bool → List Bytes → State → Run Unit
  | _, [], s => .ok () s
  | first, m :: rest, s =>
    let s := ((s.setSeq .upSend).sendMsg m).putTrigger key m
    if ackTrigger key m then
      (waitAck key (waitClass first) (s.setSeq .upWaitAck)).andThen fun r s =>
        uploadFrom key false rest (s.addReport r)
    else uploadFrom key first rest s

/-- `UPLOAD` on a stream (R270). -/
def uploadRun (key : Vector Byte 13) (c : Byte) (stream : Bytes) (s : State) : Run Output :=
  (frameIn stream s).andThen fun msgs s =>
    (openPort c s).andThen fun _ s =>
      (uploadFrom key true msgs s).andThen fun _ s =>
        doneWith ⟨[], none, some s.dp.reports, none⟩ s

/-! ## RETRIEVE -/

/-- What a page wait discards: every message with command `0x74` (R292). -/
def pageSkips (m : Bytes) : Bool := classify m == some Config.cmdRead

/-- The command byte of an accepted reply is rewritten to `0x74` (R293). -/
def rewriteReply (m : Bytes) : Bytes := m.set 5 Config.cmdRead

/-- A message that ended a page wait: the checks of R292 in order. -/
def acceptReply (key : Vector Byte 13) (pidx : Half) (m : Bytes) (s : State) : Run Bytes :=
  let p := payloadOf m
  if classify m ≠ some Config.cmdWrite then .raised ⟨.unexpectedResponse, classInfo m⟩ s
  else if p.length ≠ Config.pagePayloadLen then
    .raised ⟨.unexpectedResponse, .check .pagePayloadLength⟩ s
  else
    (pagedecRun key p s).andThen fun plain s =>
      if pidxOf plain ≠ pidx then .raised ⟨.unexpectedResponse, .check .pageIndex⟩ s else .ok m s

/-- `WAITPAGE(pidx, T)` (R292). -/
def waitPage (key : Vector Byte 13) (pidx : Half) (t : TimeoutClass) (s : State) : Run Bytes :=
  match s.receive t pageSkips with
  | (none, s) => .raised ⟨.protocolTimeout, .none⟩ s
  | (some m, s) => acceptReply key pidx m s

/-- The read request for a page (spec/30_encoding.md R89). -/
def readRequestMsg (rr : ReadRequest) (model : Byte) (pidx : Half) : Bytes :=
  messageBytes model Config.cmdRead (rr.at model pidx)

/-- `OUT <- OUT ++ R` with its command rewritten, and the page counter moves on (R285, R293, spec/10_state.md R27). -/
def State.addReply (m : Bytes) (s : State) : State :=
  { s with outBuf := append s.outBuf (rewriteReply m), dp := { s.dp with page := s.dp.page + 1 } }

/-- The page index the loop of `RETRIEVE` is at: `(START >> 8) + p` (R285). -/
def retrievePidx (start : Addr) (s : State) : Half := pidxOfAddr (start.toNat + 256 * s.dp.page)

/-- The page loop of `RETRIEVE`, `n` pages left (R285). -/
def retrieveFrom (key : Vector Byte 13) (rr : ReadRequest) (model : Byte) (start : Addr) : Nat → State → Run Unit
  | 0, s => .ok () s
  | n + 1, s =>
    let pidx := retrievePidx start s
    let t := waitClass (s.dp.page == 0)
    (waitPage key pidx t (((s.setSeq .rtSend).sendMsg (readRequestMsg rr model pidx)).setSeq .rtWait)).andThen
      fun r s => retrieveFrom key rr model start n (s.addReply r)

/-- `RETRIEVE` (R285). -/
def retrieveRun (key : Vector Byte 13) (rr : ReadRequest) (c : Byte) (start count : Addr) (model : Byte) (s : State) :
    Run Output :=
  let top := start.toNat + count.toNat
  if start.toNat % 0x100 ≠ 0 ∨ count.toNat % 0x100 ≠ 0 then
    .raised ⟨.formatError, .check .unalignedRange⟩ s
  else if isDataByte model = false then .raised ⟨.formatError, .check .modelByte⟩ s
  else if s.cfg.addrLimit < top ∨ 2 ^ 24 < top then .raised ⟨.formatError, .check .addressRange⟩ s
  else
    (openPort c s).andThen fun _ s =>
      (retrieveFrom key rr model start (count.toNat / 0x100) s).andThen fun _ s =>
        doneWith (Output.ofBytes s.outBuf) s

/-! ## DISPLAY -/

/-- The plain payload of the display packet (spec/30_encoding.md R86). -/
def displayPlain (order : Config.BitOrder) (label : Label) : Bytes :=
  0xFF :: 0x00 :: ckPage order label.bytes :: label.bytes

/-- The display packet (spec/30_encoding.md R86, R300). -/
def displayMsg (order : Config.BitOrder) (key : Vector Byte 13) (model : Byte) (label : Label) : Bytes :=
  messageBytes model Config.cmdWrite (carry key (displayPlain order label))

/-- `DISPLAY` (R300, R301). -/
def displayRun (key : Vector Byte 13) (c model : Byte) (label : Label) (s : State) : Run Output :=
  if isDataByte model = false then .raised ⟨.formatError, .check .modelByte⟩ s
  else
    (openPort c s).andThen fun _ s =>
      let order := s.cfg.ckBitOrder
      let s := ((s.setSeq .dispSend).putCk (ckAfter order label.bytes)).putTki (tkiAfter key (displayPlain order label))
      doneWith (Output.ofBytes []) (s.sendMsg (displayMsg order key model label))

/-! ## The operations -/

/-- `PROBE` (R265). -/
def execProbe (chan : Byte) (s : State) : Host.Outcome State Fault Refusal :=
  let s := s.latch fun p => { p with opc := some 0x13, chan := some chan }
  .next (s.withProbeRequest fun req =>
    finishChannel ((probeRun req chan s.begin).andThen fun _ s => doneWith (Output.ofDevice chan) s))

/-- `DETECT` (R268). -/
def execDetect (cands : Bytes) (s : State) : Host.Outcome State Fault Refusal :=
  let s := s.latch fun p => { p with opc := some 0x14, cands := some cands }
  .next (s.withProbeRequest fun req => finishChannel (detectFrom req cands s.begin))

/-- `UPLOAD` (R270). -/
def execUpload (chan : Byte) (s : State) : Host.Outcome State Fault Refusal :=
  let s := s.latch fun p => { p with opc := some 0x15, chan := some chan }
  .next (s.withKey fun key => finishChannel (uploadRun key chan s.inBuf s.begin))

/-- `RETRIEVE` (R285). -/
def execRetrieve (chan : Byte) (start count : Addr) (model : Byte) (s : State) : Host.Outcome State Fault Refusal :=
  let s := s.latch fun p =>
    { p with opc := some 0x16, chan := some chan, start := some start, count := some count, model := some model }
  .next (s.withKey fun key => s.withReadRequest fun rr =>
    finishChannel (retrieveRun key rr chan start count model s.begin))

/-- `DISPLAY` (R300). -/
def execDisplay (chan model : Byte) (label : Label) (s : State) : Host.Outcome State Fault Refusal :=
  let s := s.latch fun p => { p with opc := some 0x17, chan := some chan, model := some model, label := some label }
  .next (s.withKey fun key => finishChannel (displayRun key chan model label s.begin))

end Sys2Proof.Machine
end

