-- ==== Sys2Proof/Machine/Messages.lean ====
section
/-! DEFINITION. The four wire messages of the table as instructions: a complete message reaches the block, and the
sequencer answers it as the columns of spec/30_encoding.md R93 and the rows of spec/45_device_channel.md R305 say
(log 11). -/

namespace Sys2Proof.Machine

/-- A message in the wait of a probe: the echo and foreign messages are skipped, any other identifies the device
(R265, R266). -/
def probeMessage (m : Bytes) (s : State) : State :=
  match s.cfg.probeRequest, s.openChan with
  | some req, some c => if probeSkips req m then s else finishChannel (doneWith (Output.ofDevice c) s)
  | _, _ => s

/-- A message in an acknowledgment wait (R276, R277). -/
def ackMessage (m : Bytes) (s : State) : State :=
  match s.cfg.transportKey with
  | some key =>
    if ackSkips m then s
    else
      match acceptAck key m s with
      | .ok r s => s.addReport r
      | .raised e s => finishChannel (.raised e s)
  | none => s

/-- A message in a page wait: after the page, the next request or the end (R285, R292, R293). -/
def pageMessage (m : Bytes) (s : State) : State :=
  match s.cfg.transportKey, s.par.start, s.par.count with
  | some key, some start, some count =>
    if pageSkips m then s
    else
      match acceptReply key (retrievePidx start s) m s with
      | .ok r s =>
        if (s.addReply r).dp.page < count.toNat / 0x100 then (s.addReply r).setSeq .rtSend
        else finishChannel (doneWith (Output.ofBytes (s.addReply r).outBuf) (s.addReply r))
      | .raised e s => finishChannel (.raised e s)
  | _, _, _ => s

/-- A complete message reaches the block. Outside a wait the block reads nothing, so nothing happens (R325). -/
def State.deliver (m : Bytes) (s : State) : State :=
  match s.dp.seq with
  | .probeWait => probeMessage m s
  | .upWaitAck => ackMessage m s
  | .rtWait => pageMessage m s
  | .idle => s
  | .upSend => s
  | .rtSend => s
  | .dispSend => s
  | .done => s
  | .failed => s

/-- `MSG_PROBE` (R88, R93). -/
def execMsgProbe (model : Byte) (payload : Bytes) (s : State) : Host.Outcome State Fault Refusal :=
  .next (s.deliver (messageBytes model Config.cmdProbe payload))

/-- `MSG_PAGE_WRITE` (R85, R93). -/
def execMsgPageWrite (model : Byte) (payload : Bytes) (s : State) : Host.Outcome State Fault Refusal :=
  .next (s.deliver (messageBytes model Config.cmdWrite payload))

/-- `MSG_ACK` (R87, R93). -/
def execMsgAck (model : Byte) (payload : Bytes) (s : State) : Host.Outcome State Fault Refusal :=
  .next (s.deliver (messageBytes model Config.cmdAck payload))

/-- `MSG_PAGE_READ` (R89, R93). -/
def execMsgPageRead (model : Byte) (payload : Bytes) (s : State) : Host.Outcome State Fault Refusal :=
  .next (s.deliver (messageBytes model Config.cmdRead payload))

end Sys2Proof.Machine
end

