-- ==== Sys2Proof/Machine/Reserved.lean ====
section
/-! DEFINITION. The reserved operation codes, the five `RESERVED` rows of the table: each "does nothing and returns
status `Refused`" (spec/30_encoding.md R111; logs 3 and 12). -/

namespace Sys2Proof.Machine

/-- An operation started with the reserved code `opc` (R111). -/
def State.reservedCode (opc : Byte) (s : State) : State := (s.latch fun p => { p with opc := some opc }).refuse

/-- The code `0x00` (R111). -/
def execReserved00 (s : State) : Host.Outcome State Fault Refusal := .next (s.reservedCode 0x00)

/-- The codes `0x18` to `0x1F` (R111). -/
def execReserved18 (low : BitVec 3) (s : State) : Host.Outcome State Fault Refusal :=
  .next (s.reservedCode (0b00011#5 ++ low))

/-- The codes `0x20` to `0x3F` (R111). -/
def execReserved20 (low : BitVec 5) (s : State) : Host.Outcome State Fault Refusal :=
  .next (s.reservedCode (0b001#3 ++ low))

/-- The codes `0x40` to `0x7F` (R111). -/
def execReserved40 (low : BitVec 6) (s : State) : Host.Outcome State Fault Refusal :=
  .next (s.reservedCode (0b01#2 ++ low))

/-- The codes `0x80` to `0xFF` (R111). -/
def execReserved80 (low : BitVec 7) (s : State) : Host.Outcome State Fault Refusal :=
  .next (s.reservedCode (0b1#1 ++ low))

end Sys2Proof.Machine
end

