-- ==== Sys2Proof/Machine/Dispatch.lean ====
section
/-! DEFINITION. One arm per instruction. -/

namespace Sys2Proof.Machine

def exec (i : Instr) (s : State) : Host.Outcome State Fault Refusal :=
  match i with
  | .expand => Sys2Proof.Machine.execExpand s
  | .pack => Sys2Proof.Machine.execPack s
  | .tcipher => Sys2Proof.Machine.execTcipher s
  | .wcipher seed => Sys2Proof.Machine.execWcipher seed s
  | .ckupd bytein ckin => Sys2Proof.Machine.execCkupd bytein ckin s
  | .ckpage => Sys2Proof.Machine.execCkpage s
  | .wordcode word woff => Sys2Proof.Machine.execWordcode word woff s
  | .icksum => Sys2Proof.Machine.execIcksum s
  | .dump2os => Sys2Proof.Machine.execDump2os s
  | .os2dump => Sys2Proof.Machine.execOs2dump s
  | .frame => Sys2Proof.Machine.execFrame s
  | .pagedec => Sys2Proof.Machine.execPagedec s
  | .pageenc pidx => Sys2Proof.Machine.execPageenc pidx s
  | .msgbuild model cmd => Sys2Proof.Machine.execMsgbuild model cmd s
  | .syx2dump => Sys2Proof.Machine.execSyx2dump s
  | .dump2syx base model => Sys2Proof.Machine.execDump2syx base model s
  | .syx2os => Sys2Proof.Machine.execSyx2os s
  | .os2syx base model => Sys2Proof.Machine.execOs2syx base model s
  | .probe chan => Sys2Proof.Machine.execProbe chan s
  | .detect cands => Sys2Proof.Machine.execDetect cands s
  | .upload chan => Sys2Proof.Machine.execUpload chan s
  | .retrieve chan start count model => Sys2Proof.Machine.execRetrieve chan start count model s
  | .display chan model label => Sys2Proof.Machine.execDisplay chan model label s
  | .reserved00 => Sys2Proof.Machine.execReserved00 s
  | .reserved18 low => Sys2Proof.Machine.execReserved18 low s
  | .reserved20 low => Sys2Proof.Machine.execReserved20 low s
  | .reserved40 low => Sys2Proof.Machine.execReserved40 low s
  | .reserved80 low => Sys2Proof.Machine.execReserved80 low s
  | .msgProbe model payload => Sys2Proof.Machine.execMsgProbe model payload s
  | .msgPageWrite model payload => Sys2Proof.Machine.execMsgPageWrite model payload s
  | .msgAck model payload => Sys2Proof.Machine.execMsgAck model payload s
  | .msgPageRead model payload => Sys2Proof.Machine.execMsgPageRead model payload s

end Sys2Proof.Machine
end

