-- ==== Sys2Proof/Machine/Fetch.lean ====
section
/-! DEFINITION. How the block takes its next act: the oldest entry of `inbox` is served. A start names an instruction,
which the step runs; every other act changes the state at once (spec/10_state.md R20 to R23, R28; log 1). -/

namespace Sys2Proof.Machine

/-- What serving an act gives: an instruction to run, or the state after the act. -/
inductive Fetched where
  | run (i : Instr) (s : State)
  | served (s : State)
deriving DecidableEq, Repr

/-- The platform names a channel it can open (R261); a channel named again gets the new script. -/
def attachChannel (ch : Channel) (chans : List Channel) : List Channel :=
  match scriptOf ch.chan chans with
  | none => chans ++ [ch]
  | some _ => setScript ch.chan ch.script chans

/-- The host reads the result: `SEQ` returns to `IDLE` (R28, R305). -/
def State.readResult (s : State) : State :=
  if s.dp.seq = .done ∨ s.dp.seq = .failed then s.setSeq .idle else s

/-- Message bytes that are no row of the table: the receive framer takes them, and a complete message among them is
delivered (R263, R264). -/
def State.deliverBytes (bs : Bytes) (s : State) : State :=
  match (recvUntil (fun _ => false) .outside (bs.map .byte)).msg with
  | none => s
  | some m => s.deliver m

/-- One act of the host or the platform. -/
def serve (r : Request) (s : State) : Fetched :=
  match r with
  | .start desc =>
    match decodeDescriptor desc with
    | .ok i => .run i s
    | .error _ => .served s.refuse
  | .startRegs opc =>
    match instrOfParams opc s.par with
    | some i => .run i s
    | none => .served (s.latch fun p => { p with opc := some opc }).refuse
  | .writeParam w => .served { s with par := s.par.write w }
  | .writeConfig w => .served { s with cfg := s.cfg.write w }
  | .supply input => .served { s with inBuf := input }
  | .readResult => .served s.readResult
  | .attach ch => .served { s with channels := attachChannel ch s.channels }
  | .message bs =>
    match decodeMessage bs with
    | .ok i => .run i s
    | .error _ => .served (s.deliverBytes bs)

/-- The next act is taken from `inbox`; with none, the block waits (spec/70_reset_and_hazards.md R343). -/
def fetch (s : State) : Fetched :=
  match s.inbox with
  | [] => .served s
  | r :: rest => serve r { s with inbox := rest }

/-- The act that makes the bytes of a table word the next instruction. -/
def requestOf (bs : Bytes) : Request := if isMessageRow bs then .message bs else .start bs

/-- An act placed before all others. -/
def State.placeFirst (r : Request) (s : State) : State := { s with inbox := r :: s.inbox }

end Sys2Proof.Machine
end

