-- ==== Sys2Proof/Machine/Step.lean ====
section
/-! DEFINITION. One step: the next act of the host or the platform is served; a started operation runs to its end
(spec/20_memory.md R64). -/

namespace Sys2Proof.Machine

/-- One step of the block. -/
def step (s : State) : Host.Outcome State Fault Refusal :=
  match fetch s with
  | .run i s' => exec i s'
  | .served s' => .next s'

/-- The instruction of a table word placed where the next step takes its act (logs 1 and 22). -/
def State.withFetchWord (s : State) (nbits w : Nat) : State :=
  s.placeFirst (requestOf (tableBytes nbits w))

end Sys2Proof.Machine
end

