-- ==== Sys2Proof/Safety.lean ====
section
/-! DEFINITION. What holds of a state between operations, how an operation ends, and what a safe step is, in the terms
the statements use. -/

namespace Sys2Proof.Machine

/-- `SEQ` has a value that R28 allows between operations: `IDLE`, or the end of an operation whose result the host has
not read. -/
def SeqState.isRest : SeqState → Bool
  | .idle => true
  | .done => true
  | .failed => true
  | .probeWait => false
  | .upSend => false
  | .upWaitAck => false
  | .rtSend => false
  | .rtWait => false
  | .dispSend => false

/-- The state between operations: no channel is open (spec/70_reset_and_hazards.md R343), `SEQ` is at rest (R28), and
the checksum register holds eight bits (spec/42_page_checksum.md R160). -/
def State.atRest (s : State) : Bool :=
  s.openChan.isNone && s.dp.seq.isRest && !s.dp.ck.getLsbD 8

/-- At most one event is kept, in the datapath and in the result (spec/60_exceptions.md R322). -/
def State.oneEvent (s : State) : Bool :=
  decide (s.dp.events.length ≤ 1) &&
    match s.result with
    | none => true
    | some r => decide (r.events.length ≤ 1)

/-- The step answers a next state. -/
def completes (o : Host.Outcome State Fault Refusal) : Bool :=
  match o with
  | .next _ => true
  | .fault _ => false
  | .refused _ => false

/-- The datapath registers at the start of the operation that would start next, as spec/10_state.md R30 lists them, but
for `SEQ`. `WREG` is the free value of log 5; the events and the page counter are log 21. -/
def State.startDp (s : State) (q : SeqState) : Datapath where
  wreg := Config.unspecifiedWreg s.freeCount
  ck := 0
  tki := 0
  dmagic := 0x42474552
  isum := 0
  wofs := 0
  fstate := .outside
  fbuf := []
  warned := false
  family := .none
  lastAddr := none
  dbase := none
  seq := q
  reports := []
  events := []
  page := 0

/-- What an operation that returns only `OUT` answers. -/
def onlyBytes (out : Bytes) : Output := ⟨out, none, none, none⟩

/-- `put32` as spec/00_scope.md R11 writes it. -/
def leBytes (w : Word) : Bytes := [w.extractLsb' 0 8, w.extractLsb' 8 8, w.extractLsb' 16 8, w.extractLsb' 24 8]

/-- The result record of an operation that ends OK: the output and the events (spec/10_state.md R20). -/
def okResult (o : Output) (events : List Event) : Result where
  status := .ok
  info := .none
  out := some o.out
  base := o.base
  events := events
  reports := o.reports
  device := o.device

/-- The result record of an error: status, info and events, nothing else (spec/60_exceptions.md R314). -/
def errResult (e : Err) (events : List Event) : Result where
  status := .failed e.kind
  info := e.info
  out := none
  base := none
  events := events
  reports := none
  device := none

/-- The result record of a refusal: nothing but the status (spec/70_reset_and_hazards.md R342). -/
def refusedResult : Result := ⟨.refused, .none, none, none, [], none, none⟩

/-- The parameter registers once an operation has its operands: `OPC` and the registers its row of spec/30_encoding.md
R110 lists; every other one stays (spec/10_state.md R20, R22). A wire message writes none. -/
def latched (i : Instr) (p : ParamRegs) : ParamRegs :=
  match i with
  | .expand => { p with opc := some 0x01 }
  | .pack => { p with opc := some 0x02 }
  | .tcipher => { p with opc := some 0x03 }
  | .wcipher seed => { p with opc := some 0x04, seed := some seed }
  | .ckupd b c => { p with opc := some 0x05, bytein := some b, ckin := some c }
  | .ckpage => { p with opc := some 0x06 }
  | .wordcode w o => { p with opc := some 0x07, word := some w, woff := some o }
  | .icksum => { p with opc := some 0x08 }
  | .dump2os => { p with opc := some 0x09 }
  | .os2dump => { p with opc := some 0x0A }
  | .frame => { p with opc := some 0x0B }
  | .pagedec => { p with opc := some 0x0C }
  | .pageenc pidx => { p with opc := some 0x0D, pidx := some pidx }
  | .msgbuild m c => { p with opc := some 0x0E, model := some m, cmd := some c }
  | .syx2dump => { p with opc := some 0x0F }
  | .dump2syx b m => { p with opc := some 0x10, base := some b, model := some m }
  | .syx2os => { p with opc := some 0x11 }
  | .os2syx b m => { p with opc := some 0x12, base := some b, model := some m }
  | .probe c => { p with opc := some 0x13, chan := some c }
  | .detect cs => { p with opc := some 0x14, cands := some cs }
  | .upload c => { p with opc := some 0x15, chan := some c }
  | .retrieve c a n m => { p with opc := some 0x16, chan := some c, start := some a, count := some n, model := some m }
  | .display c m l => { p with opc := some 0x17, chan := some c, model := some m, label := some l }
  | .reserved00 => { p with opc := some 0x00 }
  | .reserved18 low => { p with opc := some (0x18 ||| low.setWidth 8) }
  | .reserved20 low => { p with opc := some (0x20 ||| low.setWidth 8) }
  | .reserved40 low => { p with opc := some (0x40 ||| low.setWidth 8) }
  | .reserved80 low => { p with opc := some (0x80 ||| low.setWidth 8) }
  | .msgProbe _ _ => p
  | .msgPageWrite _ _ => p
  | .msgAck _ _ => p
  | .msgPageRead _ _ => p

/-- `s` after an operation that did not touch the channel ended OK: its parameter registers, its datapath registers and
its output, with the write of `SEQ` in the trace; every other field is that of `s` (spec/10_state.md R20, R28). -/
def State.endedOk (s : State) (par : ParamRegs) (dp : Datapath) (o : Output) : State :=
  { s with
    par := par
    dp := dp
    outBuf := o.out
    result := some (okResult o dp.events)
    trace := s.trace ++ [.seq .done]
    freeCount := s.freeCount + 1 }

/-- `s` after an operation that did not touch the channel ended with an error before it wrote `OUT`
(spec/60_exceptions.md R314). -/
def State.endedErr (s : State) (par : ParamRegs) (dp : Datapath) (e : Err) : State :=
  { s with
    par := par
    dp := dp
    outBuf := []
    result := some (errResult e dp.events)
    trace := s.trace ++ [.seq .failed]
    freeCount := s.freeCount + 1 }

/-- `s` after an operation was refused: only the host's parameter writes and the result
(spec/70_reset_and_hazards.md R342). -/
def State.endedRefused (s : State) (par : ParamRegs) : State :=
  { s with par := par, result := some refusedResult }

/-- The error kind that ended the last operation. -/
def State.errKind (s : State) : Option ErrKind :=
  match s.result with
  | some r =>
    match r.status with
    | .failed k => some k
    | .ok => none
    | .refused => none
  | none => none

/-- The last operation ended OK with this output. -/
def State.returned (s : State) (o : Output) : Prop :=
  ∃ events, s.result = some (okResult o events)

/-- The events that the last operation returned. -/
def State.lastEvents (s : State) : List Event :=
  match s.result with
  | some r => r.events
  | none => []

/-- The bytes sent on the port, oldest first (spec/45_device_channel.md R260). -/
def State.sent (s : State) : Bytes :=
  s.trace.filterMap fun
    | .send b => some b
    | .opened _ => none
    | .flush => none
    | .recv _ _ => none
    | .closed _ => none
    | .seq _ => none

/-- The timeout classes of the `Recv` calls made on the port, oldest first (spec/60_exceptions.md R330). -/
def State.timeouts (s : State) : List TimeoutClass :=
  s.trace.filterMap fun
    | .recv t _ => some t
    | .send _ => none
    | .opened _ => none
    | .flush => none
    | .closed _ => none
    | .seq _ => none

/-- The instruction is one of the conversions, which do not use the channel (spec/20_memory.md R65). -/
def isConversion : Instr → Bool
  | .probe _ => false
  | .detect _ => false
  | .upload _ => false
  | .retrieve _ _ _ _ => false
  | .display _ _ _ => false
  | .reserved00 => false
  | .reserved18 _ => false
  | .reserved20 _ => false
  | .reserved40 _ => false
  | .reserved80 _ => false
  | .msgProbe _ _ => false
  | .msgPageWrite _ _ => false
  | .msgAck _ _ => false
  | .msgPageRead _ _ => false
  | .expand => true
  | .pack => true
  | .tcipher => true
  | .wcipher _ => true
  | .ckupd _ _ => true
  | .ckpage => true
  | .wordcode _ _ => true
  | .icksum => true
  | .dump2os => true
  | .os2dump => true
  | .frame => true
  | .pagedec => true
  | .pageenc _ => true
  | .msgbuild _ _ => true
  | .syx2dump => true
  | .dump2syx _ _ => true
  | .syx2os => true
  | .os2syx _ _ => true

/-- The instruction is one of the five operations on the channel (spec/20_memory.md R65). -/
def isChannelOp : Instr → Bool
  | .probe _ => true
  | .detect _ => true
  | .upload _ => true
  | .retrieve _ _ _ _ => true
  | .display _ _ _ => true
  | .reserved00 => false
  | .reserved18 _ => false
  | .reserved20 _ => false
  | .reserved40 _ => false
  | .reserved80 _ => false
  | .msgProbe _ _ => false
  | .msgPageWrite _ _ => false
  | .msgAck _ _ => false
  | .msgPageRead _ _ => false
  | .expand => false
  | .pack => false
  | .tcipher => false
  | .wcipher _ => false
  | .ckupd _ _ => false
  | .ckpage => false
  | .wordcode _ _ => false
  | .icksum => false
  | .dump2os => false
  | .os2dump => false
  | .frame => false
  | .pagedec => false
  | .pageenc _ => false
  | .msgbuild _ _ => false
  | .syx2dump => false
  | .dump2syx _ _ => false
  | .syx2os => false
  | .os2syx _ _ => false

/-- How many operand bytes the descriptor of an operation code has at least (spec/30_encoding.md R110); the count byte
of `DETECT` adds as many as it says. -/
def operandBytes (opc : Byte) : Nat :=
  match opc.toNat with
  | 0x04 => 2
  | 0x05 => 2
  | 0x07 => 8
  | 0x0D => 2
  | 0x0E => 2
  | 0x10 => 4
  | 0x12 => 4
  | 0x13 => 1
  | 0x14 => 1
  | 0x15 => 1
  | 0x16 => 8
  | 0x17 => 6
  | _ => 0

/-- The size check as R186 of spec/43_os_image_codec.md writes it. -/
def sizeFits (size : Nat) : Prop := 0 < size ∧ align4 size + 0x2008 ≤ 0x7FFFF

/-- An image whose size passes the check (R186). -/
def imageFits (x : Bytes) : Prop := sizeFits x.length

/-- A base address, a model byte and a padded length that `DUMP2SYX` accepts (spec/44_format_converter.md R230). -/
def legalRange (limit : Nat) (base : Addr) (model : Byte) (len : Nat) : Prop :=
  base.toNat % 0x1000 = 0 ∧ 0x2000 ≤ base.toNat ∧ model.toNat < 0x80 ∧ base.toNat + len ≤ limit ∧
    base.toNat + len ≤ 2 ^ 24 ∧ ¬(base.toNat ≤ 0xFF0000 ∧ 0xFF0000 < base.toNat + len)

/-- A message as the device may send it: start byte, data bytes, end byte (R80, R81). -/
def framedMsg (body : Bytes) : Bytes := 0xF0 :: body ++ [0xF7]

/-- A message is manufacturer-matching, in the words of spec/44_format_converter.md R212 and spec/45_device_channel.md
R264; every other message is foreign. -/
def mfrMessage (m : Bytes) : Prop := 7 ≤ m.length ∧ byteAt m 1 = 0x00 ∧ byteAt m 2 = 0x20 ∧ byteAt m 3 = 0x32

/-- A message after which `UPLOAD` waits, in the words of spec/45_device_channel.md R272: manufacturer-matching, command
`0x34`, a payload of 296 bytes, and a page index whose low nibble is `0xF`. -/
def endsSector (key : Vector Byte 13) (m : Bytes) : Prop :=
  let plain := tcipher key (expand ((m.drop 6).take 296))
  mfrMessage m ∧ byteAt m 5 = 0x34 ∧ m.length = 7 + 296 ∧ (byteAt plain 0 ++ byteAt plain 1) &&& 0x000F = 0x000F#16

/-- A message that `SYX2DUMP` skips: foreign, or of a command other than `0x34` and `0x74`
(spec/44_format_converter.md R214). -/
def skipped (body : Bytes) : Prop :=
  (∀ b ∈ body, b.toNat < 0x80) ∧
    ¬(mfrMessage (framedMsg body) ∧ (byteAt (framedMsg body) 5 = 0x34 ∨ byteAt (framedMsg body) 5 = 0x74))

/-- A message that a probe skips: the echo of its request, or a foreign one (spec/45_device_channel.md R265). -/
def probeEcho (req body : Bytes) : Prop :=
  (∀ b ∈ body, b.toNat < 0x80) ∧ (framedMsg body = req ∨ ¬mfrMessage (framedMsg body))

/-- The bytes of messages, one after another. -/
def framedBytes (bodies : List Bytes) : Bytes := (bodies.map framedMsg).flatten

/-- A script on which no probe gets an answer: messages that a probe skips, with a `NoData` between any of them. -/
def silentScript (req : Bytes) (script : List RecvItem) : Prop :=
  ∃ (chunks : List (List Bytes)) (last : List Bytes), (∀ bodies ∈ last :: chunks, ∀ body ∈ bodies, probeEcho req body) ∧
    script = (chunks.map fun bodies => (framedBytes bodies).map .byte ++ [RecvItem.noData]).flatten ++
      (framedBytes last).map .byte

/-! ## Streams and the answers to them -/

/-- Messages with the stray bytes that stand before each, and the stray bytes after the last
(spec/44_format_converter.md R210). -/
structure Framing where
  segs : List (Bytes × Bytes)
  tail : Bytes
deriving DecidableEq, Repr

/-- Stray bytes hold no start byte, messages only data bytes. -/
def Framing.sound (f : Framing) : Prop :=
  (∀ p ∈ f.segs, (∀ b ∈ p.1, b ≠ 0xF0) ∧ ∀ b ∈ p.2, b.toNat < 0x80) ∧ ∀ b ∈ f.tail, b ≠ 0xF0

/-- The stream, stray bytes included. -/
def Framing.stream (f : Framing) : Bytes := (f.segs.map fun p => p.1 ++ framedMsg p.2).flatten ++ f.tail

/-- The messages alone. -/
def Framing.clean (f : Framing) : Bytes := (f.segs.map fun p => framedMsg p.2).flatten

/-- There is no stray byte. -/
def Framing.noStray (f : Framing) : Prop := (∀ p ∈ f.segs, p.1 = []) ∧ f.tail = []

/-- One page of a stream with the messages before it that `SYX2DUMP` skips. -/
structure DumpPage where
  before : List Bytes
  model : Byte
  data : Bytes
deriving DecidableEq, Repr

/-- Skipped messages, a 7-bit model byte, a whole page. -/
def DumpPage.sound (x : DumpPage) : Prop :=
  (∀ body ∈ x.before, skipped body) ∧ x.model.toNat < 0x80 ∧ x.data.length = 256

/-- The part of the stream that holds the page of page index `p` under a command byte. -/
def DumpPage.stream (order : Config.BitOrder) (key : Vector Byte 13) (cmd : Byte) (p : Nat) (x : DumpPage) : Bytes :=
  framedBytes x.before ++ messageBytes x.model cmd (pagePayload order key (BitVec.ofNat 16 p) x.data)

/-- A stream of successive pages of one family from page index `p` (spec/44_format_converter.md R220). -/
def dumpStream (order : Config.BitOrder) (key : Vector Byte 13) (cmd : Byte) (p : Nat) (xs : List DumpPage) : Bytes :=
  ((xs.zipIdx p).map fun x => x.1.stream order key cmd x.2).flatten

/-- One sector of an upload and what the device answers to it: messages that trigger no wait, the sector's last page,
the echoes of it, the acknowledgment (spec/45_device_channel.md R272, R276). -/
structure SectorExchange where
  before : List Bytes
  pidx : Half
  data : Bytes
  echoes : List Bytes
  addr : Half
  status : Byte
  more : Bytes
deriving DecidableEq, Repr

/-- The exchange is one that the rules accept: the page is a sector's sixteenth, the acknowledgment a whole number of
groups with a status of R87. -/
def SectorExchange.sound (key : Vector Byte 13) (x : SectorExchange) : Prop :=
  (∀ b ∈ x.before.flatten, b.toNat < 0x80) ∧ (∀ body ∈ x.before, ¬endsSector key (framedMsg body)) ∧
    x.data.length = 256 ∧ x.pidx.toNat % 16 = 15 ∧ (∀ b ∈ x.echoes.flatten, b.toNat < 0x80) ∧ x.status.toNat ≤ 3 ∧
    (3 + x.more.length) % 7 = 0

/-- The sector's part of the stream. -/
def SectorExchange.stream (order : Config.BitOrder) (key : Vector Byte 13) (model : Byte) (x : SectorExchange) : Bytes :=
  framedBytes x.before ++ messageBytes model 0x34 (pagePayload order key x.pidx x.data)

/-- The acknowledgment message of an address and a status, most significant address byte first, ciphered or not
(spec/30_encoding.md R83, R87). -/
def ackMsg (key : Vector Byte 13) (ciphered : Bool) (model : Byte) (addr : Half) (status : Byte) (more : Bytes) : Bytes :=
  let plain := [addr.extractLsb' 8 8, addr.extractLsb' 0 8, status] ++ more
  messageBytes model 0x35 (pack (if ciphered then tcipher key plain else plain))

/-- The device's answer to the sector. -/
def SectorExchange.answer (key : Vector Byte 13) (ciphered : Bool) (model : Byte) (x : SectorExchange) : Bytes :=
  (x.echoes.map (messageBytes model 0x34)).flatten ++ ackMsg key ciphered model x.addr x.status x.more

/-- What the block reports of the sector (spec/45_device_channel.md R277). -/
def SectorExchange.report (x : SectorExchange) : Report := ⟨x.addr, x.status⟩

/-- What a device answers to one read request: echoes of the request, then the page under the device's model byte
(spec/45_device_channel.md R292). -/
structure PageExchange where
  echoes : List Bytes
  model : Byte
  data : Bytes
deriving DecidableEq, Repr

/-- Data bytes in the echoes, a 7-bit model byte, a whole page. -/
def PageExchange.sound (x : PageExchange) : Prop :=
  (∀ b ∈ x.echoes.flatten, b.toNat < 0x80) ∧ x.model.toNat < 0x80 ∧ x.data.length = 256

/-- The page message of page index `p` under a command byte. -/
def PageExchange.reply (order : Config.BitOrder) (key : Vector Byte 13) (cmd : Byte) (p : Nat) (x : PageExchange) :
    Bytes :=
  messageBytes x.model cmd (pagePayload order key (BitVec.ofNat 16 p) x.data)

/-- The device's answer to the request for page index `p`, sent with model byte `model`. -/
def PageExchange.answer (order : Config.BitOrder) (key : Vector Byte 13) (model : Byte) (p : Nat) (x : PageExchange) :
    Bytes :=
  (x.echoes.map (messageBytes model 0x74)).flatten ++ x.reply order key 0x34 p

/-- The read requests for `n` pages from page index `p` (spec/30_encoding.md R89). -/
def pageRequests (rr : ReadRequest) (model : Byte) (p n : Nat) : Bytes :=
  ((List.range' p n).map fun k => messageBytes model 0x74 (rr.at model (BitVec.ofNat 16 k))).flatten

/-- The timeout classes of a transfer's waits, one for every byte each wait reads: `T_LONG` in the first, `T_SHORT` in
the others (spec/60_exceptions.md R330). -/
def waitClasses : List Bytes → List TimeoutClass
  | [] => []
  | answer :: later => List.replicate answer.length .long ++ List.replicate later.flatten.length .short

end Sys2Proof.Machine
end

