-- ==== Sys2Proof/Certificates/Slice0/Obligations.lean ====
section
/-! DEFINITION. The statements for the provers. Where a statement says `∃ info`, the `info` of an error is left open, as
spec/60_exceptions.md R312 leaves it. What `endedOk`, `endedErr` and `endedRefused` say of `IN` (log 7), of `OUT` after
an error (log 15), of the free value of `WREG` (log 5), of the trace (log 19) and of what a refused start leaves (log 3)
is the model's choice, in every statement that uses them; so is that bytes after a descriptor's operands are ignored
(log 4). That every conversion writes `SEQ` at its end is R28 and R314 (log 2). -/

open Sys2Proof Sys2Proof.Machine

/-! ## Encoding and stepping -/

/-- Every bit of every encoding is read back (spec/30_encoding.md R80, R110). -/
def Obligations.DecodeEncodeRoundTrip : Prop :=
  ∀ i : Instr, i.wf = true → decode (encode i) = .ok i

/-- The descriptors of programs P1 to P7 as spec/95_test_vectors.md section 3 writes them out, and the probe message
of its vector PG7 (R80). -/
def Obligations.WrittenDescriptorsDecode : Prop :=
  decodeDescriptor [0x10, 0x00, 0x20, 0x00, 0x15] = .ok (.dump2syx 0x2000 0x15) ∧
  decodeDescriptor [0x0F] = .ok .syx2dump ∧
  decodeDescriptor [0x12, 0x00, 0x20, 0x00, 0x15] = .ok (.os2syx 0x2000 0x15) ∧
  decodeDescriptor [0x11] = .ok .syx2os ∧
  decodeDescriptor [0x15, 0x00] = .ok (.upload 0x00) ∧
  decodeDescriptor [0x16, 0x00, 0x00, 0x20, 0x00, 0x00, 0x01, 0x00, 0x15] = .ok (.retrieve 0x00 0x2000 0x100 0x15) ∧
  decodeDescriptor [0x0D, 0x21, 0x00] = .ok (.pageenc 0x0021) ∧
  decodeDescriptor [0x0D, 0x23, 0x00] = .ok (.pageenc 0x0023) ∧
  decodeDescriptor [0x0E, 0x15, 0x34] = .ok (.msgbuild 0x15 0x34) ∧
  decodeDescriptor [0x10, 0x00, 0x10, 0x00, 0x15] = .ok (.dump2syx 0x1000 0x15) ∧
  decodeDescriptor [0x17, 0x00, 0x15, 0x54, 0x45, 0x53, 0x54] = .ok (.display 0x00 0x15 ⟨0x54, 0x45, 0x53, 0x54⟩) ∧
  decodeDescriptor [0x18] = .ok (.reserved18 0) ∧
  decodeMessage [0xF0, 0x00, 0x20, 0x32, 0x15, 0x01, 0xF7] = .ok (.msgProbe 0x15 [])

/-- A step runs the instruction that the oldest act decodes to, with that act taken from the queue: a descriptor (R110),
a start on the parameter registers (spec/10_state.md R20, R22), which runs the operation of that code whose operands
are the registers' values, a message on the wire; and a table word placed by
`withFetchWord` is the next instruction. -/
def Obligations.StepRunsTheDecodedInstruction : Prop :=
  ∀ (s : State) (rest : List Request) (i : Instr),
    (∀ desc, s.inbox = .start desc :: rest → decodeDescriptor desc = .ok i → step s = exec i { s with inbox := rest }) ∧
    (∀ opc, s.inbox = .startRegs opc :: rest →
      instrOfParams opc s.par = some i ∨
        ((∀ p, (latched i p).opc = some opc) ∧ latched i s.par = { s.par with opc := some opc }) →
      step s = exec i { s with inbox := rest }) ∧
    (∀ bs, s.inbox = .message bs :: rest → decodeMessage bs = .ok i → step s = exec i { s with inbox := rest }) ∧
    (∀ nbits w, decodeTableWord nbits w = some i → step (s.withFetchWord nbits w) = exec i s)

/-- No step faults or is refused by the model, and with nothing to serve the block waits (spec/70_reset_and_hazards.md
R343). Every operation ends with exactly one status, and the host sees its code (spec/60_exceptions.md R310). -/
def Obligations.EveryStepAnswersNext : Prop :=
  (∀ s : State, completes (step s) = true ∧ (s.inbox = [] → step s = .next s)) ∧
  (∀ (i : Instr) (s : State), isConversion i = true ∨ isChannelOp i = true →
    ∃ t r, exec i s = .next t ∧ t.result = some r ∧ r.status.code.toNat ≤ 8) ∧
  [Status.ok, .failed .formatError, .failed .checksumMismatch, .failed .addressDiscontinuity, .failed .sizeOutOfRange,
    .failed .protocolTimeout, .failed .unexpectedResponse, .failed .deviceNotFound, .refused].map Status.code =
    [0, 1, 2, 3, 4, 5, 6, 7, 8]

/-- What the host's other acts do: each parameter write and each configuration write changes its own register
(spec/10_state.md R22, R23; `CK_BIT_ORDER` log 13). R23 and R342 have the host write each configuration register once,
before its use; that a register written again, or after an operation, takes the new value is the model's choice (log
18). A supply changes `IN` (R20), an attach gives its channel the new script and no other (spec/45_device_channel.md
R260, R261; log 9), and reading the result returns `SEQ` to `IDLE` (R28) and keeps the result (log 10). -/
def Obligations.HostActsBetweenOperations : Prop :=
  ∀ (s : State) (rest : List Request),
    (∀ w, s.inbox = .writeParam w :: rest →
      step s = .next { s with
        inbox := rest
        par := match w with
          | .seed v => { s.par with seed := some v }
          | .bytein v => { s.par with bytein := some v }
          | .ckin v => { s.par with ckin := some v }
          | .word v => { s.par with word := some v }
          | .woff v => { s.par with woff := some v }
          | .model v => { s.par with model := some v }
          | .cmd v => { s.par with cmd := some v }
          | .base v => { s.par with base := some v }
          | .pidx v => { s.par with pidx := some v }
          | .start v => { s.par with start := some v }
          | .count v => { s.par with count := some v }
          | .label v => { s.par with label := some v }
          | .chan v => { s.par with chan := some v }
          | .cands v => { s.par with cands := some v } }) ∧
    (∀ w, s.inbox = .writeConfig w :: rest →
      step s = .next { s with
        inbox := rest
        cfg := match w with
          | .transportKey v => { s.cfg with transportKey := some v }
          | .osT1 v => { s.cfg with osT1 := some v }
          | .osT2 v => { s.cfg with osT2 := some v }
          | .probeRequest v => { s.cfg with probeRequest := some v }
          | .readRequest v => { s.cfg with readRequest := some v }
          | .rebootLabel v => { s.cfg with rebootLabel := some v }
          | .seedOf v => { s.cfg with seedOf := v }
          | .addrLimit v => { s.cfg with addrLimit := v }
          | .ackCiphered v => { s.cfg with ackCiphered := v }
          | .ckBitOrder v => { s.cfg with ckBitOrder := v } }) ∧
    (∀ v, s.inbox = .supply v :: rest → step s = .next { s with inbox := rest, inBuf := v }) ∧
    (∀ c script, s.inbox = .attach ⟨c, script⟩ :: rest →
      ∃ chans, step s = .next { s with inbox := rest, channels := chans } ∧ scriptOf c chans = some script ∧
        ∀ d, d ≠ c → scriptOf d chans = scriptOf d s.channels) ∧
    (s.inbox = .readResult :: rest → s.dp.seq = .done ∨ s.dp.seq = .failed →
      ∃ t, step s = .next t ∧ t.dp = { s.dp with seq := .idle } ∧ t.result = s.result ∧ t.inbox = rest ∧
        t.cfg = s.cfg ∧ t.par = s.par ∧ t.sent = s.sent)

/-! ## Refusals -/

/-- A reserved operation code does nothing and returns status `Refused`, in a descriptor and as each of the five
reserved rows (R111). That it leaves `SEQ` alone and that the code stays in the register `OPC` are the model's reading
(log 3). -/
def Obligations.ReservedCodesAreRefused : Prop :=
  ∀ s : State,
    (∀ (opc : Byte) (ops : Bytes) (rest : List Request), s.inbox = .start (opc :: ops) :: rest →
      opc = 0 ∨ 0x18 ≤ opc.toNat →
      step s = .next ({ s with inbox := rest }.endedRefused { s.par with opc := some opc })) ∧
    exec .reserved00 s = .next (s.endedRefused { s.par with opc := some 0x00 }) ∧
    (∀ low, exec (.reserved18 low) s =
      .next (s.endedRefused { s.par with opc := some (0x18 ||| low.setWidth 8) })) ∧
    (∀ low, exec (.reserved20 low) s =
      .next (s.endedRefused { s.par with opc := some (0x20 ||| low.setWidth 8) })) ∧
    (∀ low, exec (.reserved40 low) s =
      .next (s.endedRefused { s.par with opc := some (0x40 ||| low.setWidth 8) })) ∧
    (∀ low, exec (.reserved80 low) s =
      .next (s.endedRefused { s.par with opc := some (0x80 ||| low.setWidth 8) }))

/-- An operation whose operands cannot be read is refused: a descriptor shorter than its operand list (R111; that it
writes no parameter register is the model's choice, log 4), and a start on a parameter register never written
(spec/10_state.md R32). -/
def Obligations.MissingOperandsAreRefused : Prop :=
  ∀ (s : State) (rest : List Request),
    (∀ desc, s.inbox = .start desc :: rest →
      (desc.length < 1 + operandBytes (byteAt desc 0) ∨
        ∃ n ops, desc = 0x14 :: n :: ops ∧ ops.length < n.toNat) →
      step s = .next { s with inbox := rest, result := some refusedResult }) ∧
    ∀ opc, s.inbox = .startRegs opc :: rest →
      (opc = 0x04 ∧ s.par.seed = none) ∨ (opc = 0x05 ∧ (s.par.bytein = none ∨ s.par.ckin = none)) ∨
        (opc = 0x07 ∧ (s.par.word = none ∨ s.par.woff = none)) ∨ (opc = 0x0D ∧ s.par.pidx = none) ∨
        (opc = 0x0E ∧ (s.par.model = none ∨ s.par.cmd = none)) ∨
        ((opc = 0x10 ∨ opc = 0x12) ∧ (s.par.base = none ∨ s.par.model = none)) ∨
        ((opc = 0x13 ∨ opc = 0x15 ∨ opc = 0x16 ∨ opc = 0x17) ∧ s.par.chan = none) ∨
        (opc = 0x14 ∧ s.par.cands = none) ∨
        (opc = 0x16 ∧ (s.par.start = none ∨ s.par.count = none ∨ s.par.model = none)) ∨
        (opc = 0x17 ∧ (s.par.model = none ∨ s.par.label = none)) →
      step s = .next ({ s with inbox := rest }.endedRefused { s.par with opc := some opc })

/-- An operation that reads a configuration register never written returns `Refused` and does nothing else
(spec/70_reset_and_hazards.md R342), but that `OPC` and its operand registers hold what the host wrote to start it
(spec/10_state.md R20, R22; log 3). -/
def Obligations.UnconfiguredRegisterIsRefused : Prop :=
  ∀ (s : State) (i : Instr),
    (s.cfg.transportKey = none ∧
        (i = .tcipher ∨ i = .pagedec ∨ (∃ p, i = .pageenc p) ∨ i = .syx2dump ∨ (∃ b m, i = .dump2syx b m) ∨
          i = .syx2os ∨ (∃ b m, i = .os2syx b m) ∨ (∃ c, i = .upload c) ∨ (∃ c a n m, i = .retrieve c a n m) ∨
          ∃ c m l, i = .display c m l)) ∨
      ((s.cfg.osT1 = none ∨ s.cfg.osT2 = none) ∧
        ((∃ w o, i = .wordcode w o) ∨ i = .dump2os ∨ i = .os2dump ∨ i = .syx2os ∨ ∃ b m, i = .os2syx b m)) ∨
      (s.cfg.probeRequest = none ∧ ((∃ c, i = .probe c) ∨ ∃ cs, i = .detect cs)) ∨
      (s.cfg.readRequest = none ∧ ∃ c a n m, i = .retrieve c a n m) →
    exec i s = .next (s.endedRefused (latched i s.par))

/-! ## Reset -/

/-- The state after power-on: the datapath registers at the values of spec/10_state.md R30
(spec/70_reset_and_hazards.md R340), no channel open, the configuration registers without a default and the parameter
registers never written (R340, held as `none`: log 6), and the registers with a default at it (R342, spec/00_scope.md
R8, for `SEED_OF` spec/41_stream_cipher.md R147). That `CK_BIT_ORDER` is a register is log 13. `WREG`, for which the
spec gives no value, is not mentioned. -/
def Obligations.ResetValues : Prop :=
  let d := State.reset.dp
  d.ck = 0 ∧ d.tki = 0 ∧ d.dmagic = 0x42474552 ∧ d.isum = 0 ∧ d.wofs = 0 ∧ d.fstate = .outside ∧ d.fbuf = [] ∧
    d.warned = false ∧ d.family = .none ∧ d.lastAddr = none ∧ d.dbase = none ∧ d.seq = .idle ∧ d.reports = [] ∧
    State.reset.openChan = none ∧ State.reset.cfg.transportKey = none ∧ State.reset.cfg.osT1 = none ∧
    State.reset.cfg.osT2 = none ∧ State.reset.cfg.probeRequest = none ∧ State.reset.cfg.readRequest = none ∧
    State.reset.cfg.rebootLabel = none ∧ State.reset.cfg.addrLimit = 2 ^ 24 ∧
    State.reset.cfg.ackCiphered = true ∧ State.reset.cfg.ckBitOrder = .lsbFirst ∧
    (∀ a, State.reset.cfg.seedOf.at a = a.setWidth 16) ∧
    State.reset.par =
      ⟨none, none, none, none, none, none, none, none, none, none, none, none, none, none, none⟩

/-! ## BitTranscoder -/

/-- `EXPAND` (R120, R121): its code, the bytes of every group, the length, what it writes and its only error
(the bytes after the code log 4, `IN` log 7, `OUT` after the error log 15). -/
def Obligations.ExpandResult : Prop :=
  (∀ rest, decodeDescriptor (0x01 :: rest) = .ok .expand) ∧ ∀ s : State,
    (s.inBuf.length % 8 = 0 →
      let out := expand s.inBuf
      exec .expand s = .next (s.endedOk { s.par with opc := some 0x01 } (s.startDp .done) (onlyBytes out)) ∧
      out.length = s.inBuf.length / 8 * 7 ∧
      ∀ g j, g < s.inBuf.length / 8 → j < 7 →
        byteAt out (7 * g + j) = byteAt s.inBuf (8 * g + j) |||
          (if (byteAt s.inBuf (8 * g + 7)).getLsbD (6 - j) then 0x80 else 0)) ∧
    (s.inBuf.length % 8 ≠ 0 → ∃ info,
      exec .expand s = .next (s.endedErr { s.par with opc := some 0x01 } (s.startDp .failed) ⟨.formatError, info⟩))

/-- `PACK` (R122): its code, the bytes of every group with its flags byte, the length, what it writes and its only
error (the bytes after the code log 4, `IN` log 7, `OUT` after the error log 15). -/
def Obligations.PackResult : Prop :=
  (∀ rest, decodeDescriptor (0x02 :: rest) = .ok .pack) ∧ ∀ s : State,
    (s.inBuf.length % 7 = 0 →
      let out := pack s.inBuf
      exec .pack s = .next (s.endedOk { s.par with opc := some 0x02 } (s.startDp .done) (onlyBytes out)) ∧
      out.length = s.inBuf.length / 7 * 8 ∧
      ∀ g, g < s.inBuf.length / 7 →
        (∀ j, j < 7 → byteAt out (8 * g + j) = byteAt s.inBuf (7 * g + j) &&& 0x7F) ∧
        (∀ k, k < 7 → (byteAt out (8 * g + 7)).getLsbD k = (byteAt s.inBuf (7 * g + (6 - k))).getLsbD 7) ∧
        (byteAt out (8 * g + 7)).getLsbD 7 = false) ∧
    (s.inBuf.length % 7 ≠ 0 → ∃ info,
      exec .pack s = .next (s.endedErr { s.par with opc := some 0x02 } (s.startDp .failed) ⟨.formatError, info⟩))

/-- The laws of `EXPAND` and `PACK`: every packed byte is below `0x80` (R124), `EXPAND(PACK(y)) = y` (R125),
`PACK(EXPAND(x)) = x` exactly when every byte of `x` is below `0x80`, with the rule's example (R126), and the lengths
(R127). -/
def Obligations.TranscoderLaws : Prop :=
  (∀ y : Bytes, ∀ b ∈ pack y, b.toNat < 0x80) ∧
    (∀ y : Bytes, y.length % 7 = 0 → expand (pack y) = y ∧ (pack y).length = y.length / 7 * 8) ∧
    (∀ x : Bytes, x.length % 8 = 0 →
      (pack (expand x) = x ↔ ∀ b ∈ x, b.toNat < 0x80) ∧ (expand x).length = x.length / 8 * 7) ∧
    pack (expand [0x80, 0, 0, 0, 0, 0, 0, 0]) = [0, 0, 0, 0, 0, 0, 0, 0x40] ∧
    (∀ y : Bytes, y.length = 259 → (pack y).length = 296) ∧ ∀ y : Bytes, y.length = 7 → (pack y).length = 8

/-! ## StreamCipher -/

/-- `TCIPHER` (R140): its code, byte `i` under key byte `i mod 13`, and the key index it leaves (the bytes after the
code log 4, `IN` log 7). -/
def Obligations.TcipherResult : Prop :=
  (∀ rest, decodeDescriptor (0x03 :: rest) = .ok .tcipher) ∧
    ∀ (s : State) (key : Vector Byte 13), s.cfg.transportKey = some key → ∃ tki,
    let out := tcipher key s.inBuf
    exec .tcipher s =
      .next (s.endedOk { s.par with opc := some 0x03 } { s.startDp .done with tki := tki } (onlyBytes out)) ∧
    tki.val = s.inBuf.length % 13 ∧ out.length = s.inBuf.length ∧
    ∀ i, i < s.inBuf.length → byteAt out i = byteAt s.inBuf i ^^^ key[i % 13]'(Nat.mod_lt _ (by decide))

/-- One step of the write-cipher register (R144). The rule adds that a step never gives 0 from a non-zero value; its own
pseudocode gives 0 from `0x8005` also, and the model follows the pseudocode (log 23). -/
def Obligations.WriteCipherStep : Prop :=
  ∀ w : Half,
    (wstep w).toNat = (if w.getLsbD 0 then w ^^^ 0x8005 else w).toNat / 2 ∧ (wstep w).getLsbD 15 = false ∧
      (wstep w = 0 ↔ w = 0 ∨ w = 0x8005)

/-- `WCIPHER` (R142, R145): its descriptor; pair `j` under the register after `j + 1` steps from the seed, low byte
first (`IN` log 7, `OUT` after the error log 15). -/
def Obligations.WcipherResult : Prop :=
  ∀ (s : State) (seed : Half),
    decodeDescriptor [0x04, seed.extractLsb' 0 8, seed.extractLsb' 8 8] = .ok (.wcipher seed) ∧
    (s.inBuf.length % 2 = 0 →
      let out := wcipher seed s.inBuf
      exec (.wcipher seed) s = .next (s.endedOk { s.par with opc := some 0x04, seed := some seed }
        { s.startDp .done with wreg := wstep^[s.inBuf.length / 2] (if seed = 0 then 0x545A else seed) }
        (onlyBytes out)) ∧
      out.length = s.inBuf.length ∧
      ∀ j, j < s.inBuf.length / 2 →
        let r := wstep^[j + 1] (if seed = 0 then 0x545A else seed)
        byteAt out (2 * j) = byteAt s.inBuf (2 * j) ^^^ r.extractLsb' 0 8 ∧
          byteAt out (2 * j + 1) = byteAt s.inBuf (2 * j + 1) ^^^ r.extractLsb' 8 8) ∧
    (s.inBuf.length % 2 ≠ 0 → ∃ info, exec (.wcipher seed) s = .next
      (s.endedErr { s.par with opc := some 0x04, seed := some seed } (s.startDp .failed) ⟨.formatError, info⟩))

/-- Both ciphers are their own inverses (R141, R146), and a run of `WCIPHER` on an even prefix gives the prefix of the
run (R146). The keystream of `WCIPHER` depends on the seed and the position only (R146). -/
def Obligations.CiphersAreSelfInverse : Prop :=
  (∀ (key : Vector Byte 13) (x : Bytes), tcipher key (tcipher key x) = x) ∧
    ∀ (seed : Half) (x : Bytes), x.length % 2 = 0 →
      wcipher seed (wcipher seed x) = x ∧ (∀ n, wcipher seed (x.take (2 * n)) = (wcipher seed x).take (2 * n)) ∧
        ∀ (y : Bytes) (i : Nat), y.length % 2 = 0 → i < x.length → i < y.length →
          byteAt (wcipher seed x) i ^^^ byteAt x i = byteAt (wcipher seed y) i ^^^ byteAt y i

/-! ## PageChecksum -/

/-- `CKUPD` (R162, R163): eight rounds, in the order that `CK_BIT_ORDER` names; the result has eight bits (R160) and its
bit 7 is the complement of the last input bit. The round for both input bits (R161), with the register after each round
of R162's example. `IN` is not read and stays (log 7). -/
def Obligations.CkupdResult : Prop :=
  (∀ b c, decodeDescriptor [0x05, b, c] = .ok (.ckupd b c)) ∧
  (∀ (s : State) (b c : Byte), ∃ ck : BitVec 9,
    exec (.ckupd b c) s = .next (s.endedOk { s.par with opc := some 0x05, bytein := some b, ckin := some c }
      { s.startDp .done with ck := ck } (onlyBytes [ck.setWidth 8])) ∧
    ck = (List.range 8).foldl
      (fun k i => ckRound (b.getLsbD (if s.cfg.ckBitOrder = .lsbFirst then i else 7 - i)) k) (c.setWidth 9) ∧
    ck = ckByte s.cfg.ckBitOrder b c ∧
    ck.getLsbD 8 = false ∧ (ck.getLsbD 7 = !b.getLsbD (if s.cfg.ckBitOrder = .lsbFirst then 7 else 0))) ∧
  (∀ (d : Bool) (ck : BitVec 9),
    let x := if d = ck.getLsbD 0 then ck ^^^ 0x19 else ck
    (ckRound d ck).toNat = (if x.getLsbD 0 then x ||| 0x100 else x).toNat / 2) ∧
  (List.range 8).map (fun n => (ckRound false)^[n + 1] 0) = [0x8C, 0xCA, 0xE9, 0xF4, 0xF6, 0xF7, 0xFB, 0xFD]

/-- `CKPAGE` (R164): the bytes one after another from 0 (`IN` stays: log 7). -/
def Obligations.CkpageResult : Prop :=
  ∀ s : State, ∃ ck : BitVec 9,
    exec .ckpage s = .next (s.endedOk { s.par with opc := some 0x06 } { s.startDp .done with ck := ck }
      (onlyBytes [ck.setWidth 8])) ∧
    ck.setWidth 8 = ckPage s.cfg.ckBitOrder s.inBuf ∧
    ck.setWidth 8 = s.inBuf.foldl (fun c b => (ckByte s.cfg.ckBitOrder b c).setWidth 8) (0 : Byte) ∧
    ck.getLsbD 8 = false

/-- A change to the last byte always changes the checksum, in either bit order; a change to an earlier byte need not,
with R166's example. -/
def Obligations.ChecksumDetectsLastByte : Prop :=
  (∀ (order : Config.BitOrder) (bs : Bytes) (b b' : Byte), ckPage order (bs ++ [b]) = ckPage order (bs ++ [b']) → b = b') ∧
    ckPage .lsbFirst (0x19 :: List.replicate 255 0) = ckPage .lsbFirst (List.replicate 256 0)

/-! ## OsImageCodec -/

/-- `WORDCODE` (R180), the period 210 of its keystream, and `WORDCODE(WORDCODE(w, o), o) = w` (R181). `IN` is not read
and stays (log 7). -/
def Obligations.WordcodeResult : Prop :=
  (∀ w o : Word, decodeDescriptor [0x07, w.extractLsb' 0 8, w.extractLsb' 8 8, w.extractLsb' 16 8, w.extractLsb' 24 8,
    o.extractLsb' 0 8, o.extractLsb' 8 8, o.extractLsb' 16 8, o.extractLsb' 24 8] = .ok (.wordcode w o)) ∧
  ∀ (s : State) (t1 : Vector Word 15) (t2 : Vector Word 14) (w o : Word),
    s.cfg.osT1 = some t1 → s.cfg.osT2 = some t2 →
    let r := w ^^^ t1[o.toNat % 15]'(Nat.mod_lt _ (by decide)) ^^^ t2[o.toNat % 14]'(Nat.mod_lt _ (by decide))
    exec (.wordcode w o) s = .next (s.endedOk { s.par with opc := some 0x07, word := some w, woff := some o }
      (s.startDp .done)
      (onlyBytes (leBytes r))) ∧
    ∀ n, wordcode t1 t2 w n = w ^^^ t1[n % 15]'(Nat.mod_lt _ (by decide)) ^^^ t2[n % 14]'(Nat.mod_lt _ (by decide)) ∧
      wordcode t1 t2 w (n + 210) = wordcode t1 t2 w n ∧ wordcode t1 t2 (wordcode t1 t2 w n) n = w

/-- The image mask rotates right by one bit, with period 33 and the first values the rule lists (R182). -/
def Obligations.ImageMaskRotates : Prop :=
  (∀ m : BitVec 33, istep m = m.rotateRight 1 ∧ istep^[33] m = m) ∧
    (List.range 4).map (fun n => istep^[n + 1] 0x42474552) = [0x02123A2A9, 0x11091D154, 0x08848E8AA, 0x044247455]

/-- `ICKSUM` (R184, R185): the sum over the words of the mask, stepped before use, XOR the word, mod `2^32`
(the bytes after the code log 4, `IN` log 7, `OUT` after the error log 15). The same sum is the checksum of every word
sequence; words are little-endian (spec/00_scope.md R11). -/
def Obligations.IcksumResult : Prop :=
  (∀ rest, decodeDescriptor (0x08 :: rest) = .ok .icksum) ∧
  (∀ bs i, wordAt bs i = byteAt bs (i + 3) ++ byteAt bs (i + 2) ++ byteAt bs (i + 1) ++ byteAt bs i) ∧
  (∀ ws : List Word, (imageChecksum ws).toNat = ((List.range ws.length).map fun k =>
    ((istep^[k + 1] 0x42474552) ^^^ (ws.getD k 0).setWidth 33).toNat).sum % 2 ^ 32) ∧ ∀ s : State,
    (s.inBuf.length % 4 = 0 →
      let n := s.inBuf.length / 4
      ∃ sum : Word,
        exec .icksum s = .next (s.endedOk { s.par with opc := some 0x08 }
          { s.startDp .done with dmagic := istep^[n] 0x42474552, isum := sum }
          (onlyBytes (leBytes sum))) ∧
        sum.toNat = ((List.range n).map fun k =>
          ((istep^[k + 1] 0x42474552) ^^^ (wordAt s.inBuf (4 * k)).setWidth 33).toNat).sum % 2 ^ 32) ∧
    (s.inBuf.length % 4 ≠ 0 → ∃ info,
      exec .icksum s = .next (s.endedErr { s.par with opc := some 0x08 } (s.startDp .failed) ⟨.formatError, info⟩))

/-- `OS2DUMP` (R189, R190, R192): the header words, every image word with its partial last word filled by `0xFF`, the
fill, the length, the registers it writes; and `SizeOutOfRange` for every other size. `align4` and `alignUp` give the
least multiple that is not below (spec/00_scope.md R11). -/
def Obligations.Os2dumpResult : Prop :=
  (∀ n, align4 n % 4 = 0 ∧ n ≤ align4 n ∧ align4 n < n + 4) ∧
  (∀ n m, 0 < m → alignUp n m % m = 0 ∧ n ≤ alignUp n m ∧ alignUp n m < n + m) ∧
  ∀ (s : State) (t1 : Vector Word 15) (t2 : Vector Word 14), s.cfg.osT1 = some t1 → s.cfg.osT2 = some t2 →
    let size := s.inBuf.length
    let n := align4 size / 4
    let padded := s.inBuf ++ List.replicate (align4 size - size) 0xFF
    (imageFits s.inBuf → ∃ out isum ws,
      exec .os2dump s = .next (s.endedOk { s.par with opc := some 0x0A }
        { s.startDp .done with
          dmagic := istep^[n] 0x42474552, isum := isum, wofs := BitVec.ofNat 32 (n + 1) }
        (onlyBytes out)) ∧
      ws.length = n ∧ (∀ k, k < n → ws[k]? = some (wordAt padded (4 * k))) ∧ isum = imageChecksum ws ∧
      out.length = alignUp (8 + align4 size) 4096 ∧
      wordAt out 0 = wordcode t1 t2 (BitVec.ofNat 32 size) 0 ∧ wordAt out 4 = wordcode t1 t2 isum 1 ∧
      (∀ k, k < n → wordAt out (8 + 4 * k) = wordcode t1 t2 (wordAt padded (4 * k)) (k + 2)) ∧
      ∀ k, 8 + align4 size ≤ k → k < out.length → byteAt out k = 0xFF) ∧
    (¬imageFits s.inBuf → ∃ info,
      exec .os2dump s = .next (s.endedErr { s.par with opc := some 0x0A } (s.startDp .failed) ⟨.sizeOutOfRange, info⟩))

/-- `DUMP2OS` (R187): its checks in order, and the image where they all pass. -/
def Obligations.Dump2osResult : Prop :=
  ∀ (s : State) (t1 : Vector Word 15) (t2 : Vector Word 14), s.cfg.osT1 = some t1 → s.cfg.osT2 = some t2 →
    let par : ParamRegs := { s.par with opc := some 0x09 }
    let size := (wordcode t1 t2 (wordAt s.inBuf 0) 0).toNat
    let ck := wordcode t1 t2 (wordAt s.inBuf 4) 1
    let n := align4 size / 4
    (s.inBuf.length < 8 → ∃ info, exec .dump2os s = .next (s.endedErr par (s.startDp .failed) ⟨.formatError, info⟩)) ∧
    (8 ≤ s.inBuf.length → ¬sizeFits size →
      ∃ info, exec .dump2os s = .next (s.endedErr par (s.startDp .failed) ⟨.sizeOutOfRange, info⟩)) ∧
    (8 ≤ s.inBuf.length → sizeFits size → s.inBuf.length < 8 + align4 size →
      ∃ info, exec .dump2os s = .next (s.endedErr par (s.startDp .failed) ⟨.formatError, info⟩)) ∧
    ∀ ws : List Word, sizeFits size → 8 + align4 size ≤ s.inBuf.length → ws.length = n →
      (∀ k, k < n → ws[k]? = some (wordcode t1 t2 (wordAt s.inBuf (8 + 4 * k)) (k + 2))) →
      let dp : SeqState → Datapath := fun q =>
        { s.startDp q with
          dmagic := istep^[n] 0x42474552, isum := imageChecksum ws, wofs := BitVec.ofNat 32 (n + 1) }
      (imageChecksum ws ≠ ck → ∃ info,
        exec .dump2os s = .next (s.endedErr par (dp .failed) ⟨.checksumMismatch, info⟩)) ∧
      (imageChecksum ws = ck →
        exec .dump2os s = .next (s.endedOk par (dp .done) (onlyBytes ((ws.flatMap leBytes).take size))))

/-- A change to any byte of an accepted dump, from its checksum word to the end of its image words, is a
`ChecksumMismatch` (R193). -/
def Obligations.DumpChangeIsDetected : Prop :=
  ∀ (s t : State) (t1 : Vector Word 15) (t2 : Vector Word 14) (image : Bytes) (k : Nat) (b : Byte),
    s.cfg.osT1 = some t1 → s.cfg.osT2 = some t2 → exec .dump2os s = .next t → t.returned (onlyBytes image) →
    4 ≤ k → k < 8 + align4 (wordcode t1 t2 (wordAt s.inBuf 0) 0).toNat → b ≠ byteAt s.inBuf k →
    ∃ u, exec .dump2os { s with inBuf := s.inBuf.set k b } = .next u ∧ u.errKind = some .checksumMismatch

/-- `DUMP2OS(OS2DUMP(x)) = x` for every image in the size bound, under any tables (R191). -/
def Obligations.Dump2osInvertsOs2dump : Prop :=
  ∀ (s : State) (t1 : Vector Word 15) (t2 : Vector Word 14), s.cfg.osT1 = some t1 → s.cfg.osT2 = some t2 →
    imageFits s.inBuf →
    ∃ t u, exec .os2dump s = .next t ∧ t.returned (onlyBytes t.outBuf) ∧
      exec .dump2os { t with inBuf := t.outBuf } = .next u ∧ u.returned (onlyBytes s.inBuf)

/-! ## The framer and the page codec -/

/-- `FRAME` (R210, R211): the messages in order without the stray bytes; one event, at the first stray byte. `SYX2DUMP`,
`SYX2OS` and `UPLOAD` of the stream do what they do without the stray bytes, and return that event
(spec/60_exceptions.md R316, R322). -/
def Obligations.FrameSplitsStream : Prop :=
  ∀ (s : State) (f : Framing), f.sound → s.inBuf = f.stream →
    ∃ dp, exec .frame s = .next (s.endedOk { s.par with opc := some 0x0B } dp (onlyBytes f.clean)) ∧
      dp = { s.startDp .done with fbuf := dp.fbuf, warned := dp.warned, events := dp.events } ∧
      (dp.warned = false ∧ dp.events = [] ∧ f.noStray ∨
        dp.warned = true ∧ ∃ i k, dp.events = [.warnStray i] ∧ i < s.inBuf.length ∧ byteAt s.inBuf i ≠ 0xF0 ∧
          (∀ p ∈ f.segs.take k, p.1 = []) ∧
          s.inBuf.take i = ((f.segs.take k).map fun p => framedMsg p.2).flatten) ∧
      ∀ i, i = .syx2dump ∨ (i = .syx2os ∧ s.cfg.osT1 ≠ none ∧ s.cfg.osT2 ≠ none) ∨ (∃ chan, i = .upload chan) →
        s.cfg.transportKey ≠ none → ∃ t u, exec i s = .next t ∧ exec i { s with inBuf := f.clean } = .next u ∧
          t.errKind = u.errKind ∧ (∀ o, t.returned o ↔ u.returned o) ∧ t.sent = u.sent ∧ t.channels = u.channels ∧
          u.lastEvents = [] ∧ t.lastEvents = dp.events

/-- `FRAME` on a status byte inside a message, and on a message not ended (R210). `SYX2DUMP`, `SYX2OS` and `UPLOAD` of
such a stream end with `FormatError` too, before any byte is sent, whether or not the channel would open
(spec/45_device_channel.md R270, spec/60_exceptions.md R313). -/
def Obligations.FrameRejectsMalformed : Prop :=
  ∀ (s : State) (f : Framing) (body rest : Bytes), f.sound → (∀ b ∈ body, b.toNat < 0x80) →
    s.inBuf = f.stream ++ 0xF0 :: body ++ rest →
    (rest = [] ∨ ∃ x tail, rest = x :: tail ∧ 0x80 ≤ x.toNat ∧ x ≠ 0xF7) →
    (∃ dp info, exec .frame s = .next (s.endedErr { s.par with opc := some 0x0B } dp ⟨.formatError, info⟩) ∧
      dp = { s.startDp .failed with
        fstate := .inside, fbuf := 0xF0 :: body, warned := dp.warned, events := dp.events }) ∧
    ∀ i, i = .syx2dump ∨ (i = .syx2os ∧ s.cfg.osT1 ≠ none ∧ s.cfg.osT2 ≠ none) ∨ (∃ chan, i = .upload chan) →
      s.cfg.transportKey ≠ none →
      ∃ t, exec i s = .next t ∧ t.errKind = some .formatError ∧ t.dp.seq = .failed ∧ t.sent = s.sent ∧
        t.channels = s.channels

/-- `PAGEENC` (R218, R84): 296 bytes below `0x80` that carry the page index, most significant byte first, the checksum
and the data; `FormatError` for other data lengths. -/
def Obligations.PageencResult : Prop :=
  ∀ (s : State) (key : Vector Byte 13) (pidx : Half), s.cfg.transportKey = some key →
    let par : ParamRegs := { s.par with opc := some 0x0D, pidx := some pidx }
    let ck := ckPage s.cfg.ckBitOrder s.inBuf
    (s.inBuf.length = 256 → ∃ out,
      exec (.pageenc pidx) s = .next (s.endedOk par { s.startDp .done with ck := ck.setWidth 9, tki := 12 }
        (onlyBytes out)) ∧
      out = pagePayload s.cfg.ckBitOrder key pidx s.inBuf ∧ out.length = 296 ∧ (∀ b ∈ out, b.toNat < 0x80) ∧
      expand out = tcipher key ([pidx.extractLsb' 8 8, pidx.extractLsb' 0 8, ck] ++ s.inBuf)) ∧
    (s.inBuf.length ≠ 256 → ∃ info,
      exec (.pageenc pidx) s = .next (s.endedErr par (s.startDp .failed) ⟨.formatError, info⟩))

/-- `PAGEDEC` (R216): the plain payload of a page payload, also of every one `PAGEENC` builds; `FormatError` for a wrong
length, `ChecksumMismatch` for a wrong checksum. -/
def Obligations.PagedecResult : Prop :=
  ∀ (s : State) (key : Vector Byte 13), s.cfg.transportKey = some key →
    let par : ParamRegs := { s.par with opc := some 0x0C }
    let plain := tcipher key (expand s.inBuf)
    let ck := ckPage s.cfg.ckBitOrder (plain.drop 3)
    let dp : SeqState → Datapath := fun q => { s.startDp q with ck := ck.setWidth 9, tki := 12 }
    (s.inBuf.length ≠ 296 →
      ∃ info, exec .pagedec s = .next (s.endedErr par (s.startDp .failed) ⟨.formatError, info⟩)) ∧
    (s.inBuf.length = 296 → ck ≠ byteAt plain 2 →
      ∃ info, exec .pagedec s = .next (s.endedErr par (dp .failed) ⟨.checksumMismatch, info⟩)) ∧
    (s.inBuf.length = 296 → ck = byteAt plain 2 →
      plain.length = 259 ∧ exec .pagedec s = .next (s.endedOk par (dp .done) (onlyBytes plain))) ∧
    ∀ pidx data, data.length = 256 → s.inBuf = pagePayload s.cfg.ckBitOrder key pidx data →
      exec .pagedec s = .next (s.endedOk par (dp .done)
        (onlyBytes ([pidx.extractLsb' 8 8, pidx.extractLsb' 0 8, ckPage s.cfg.ckBitOrder data] ++ data)))

/-- `MSGBUILD` (R219; `IN` log 7, `OUT` after the error log 15): its own `OUT` and errors; the bytes of a message of any
payload (spec/30_encoding.md R80). -/
def Obligations.MsgbuildResult : Prop :=
  ∀ (s : State) (model cmd : Byte),
    let par : ParamRegs := { s.par with opc := some 0x0E, model := some model, cmd := some cmd }
    decodeDescriptor [0x0E, model, cmd] = .ok (.msgbuild model cmd) ∧
    (∀ payload, messageBytes model cmd payload = [0xF0, 0x00, 0x20, 0x32, model, cmd] ++ payload ++ [0xF7]) ∧
    (model.toNat < 0x80 → cmd.toNat < 0x80 → s.inBuf.length % 8 = 0 → (∀ b ∈ s.inBuf, b.toNat < 0x80) →
      exec (.msgbuild model cmd) s = .next (s.endedOk par (s.startDp .done)
        (onlyBytes ([0xF0, 0x00, 0x20, 0x32, model, cmd] ++ s.inBuf ++ [0xF7])))) ∧
    (0x80 ≤ model.toNat ∨ 0x80 ≤ cmd.toNat ∨ s.inBuf.length % 8 ≠ 0 ∨ (∃ b ∈ s.inBuf, 0x80 ≤ b.toNat) →
      ∃ info, exec (.msgbuild model cmd) s = .next (s.endedErr par (s.startDp .failed) ⟨.formatError, info⟩))

/-! ## The conversions -/

/-- `SYX2DUMP` of successive pages of one family (R220, R224, R225): the first page's address, the last page's, no
event, and the page data in order. Of the readback family it is the data as carried; of the write family every byte
stands under the write cipher's keystream of its sector, from the sector's first byte on, wherever in the sector the
stream begins. Foreign messages and messages of other commands before, between and after the pages are skipped (R214);
the model bytes are not checked (R212). -/
def Obligations.Syx2dumpOfPages : Prop :=
  ∀ (s : State) (key : Vector Byte 13) (cmd : Byte) (p : Nat) (xs : List DumpPage) (after : List Bytes),
    s.cfg.transportKey = some key → cmd = 0x74 ∨ cmd = 0x34 → xs ≠ [] → (∀ x ∈ xs, x.sound) →
    (∀ body ∈ after, skipped body) → p + xs.length ≤ 2 ^ 16 →
    s.inBuf = dumpStream s.cfg.ckBitOrder key cmd p xs ++ framedBytes after →
    let d := (xs.map (·.data)).flatten
    ∃ dp out, exec .syx2dump s = .next (s.endedOk { s.par with opc := some 0x0F } dp
        ⟨out, some (BitVec.ofNat 24 (256 * p)), none, none⟩) ∧
      dp.seq = .done ∧ dp.events = [] ∧ dp.family = (if cmd = 0x74 then .readback else .write) ∧
      dp.dbase = some (BitVec.ofNat 24 (256 * p)) ∧ dp.lastAddr = some (BitVec.ofNat 24 (256 * (p + xs.length - 1))) ∧
      (cmd = 0x74 → out = d) ∧
      (cmd = 0x34 → out.length = 256 * xs.length ∧ ∀ k, k < 256 * xs.length →
        let a := 256 * p + k
        byteAt out k = byteAt d k ^^^
          byteAt (wcipher (s.cfg.seedOf.at (BitVec.ofNat 24 (a / 4096 * 4096))) (List.replicate 4096 0)) (a % 4096))

/-- The errors of `SYX2DUMP` (R215, R216, R221 to R223), in the order of R226: after any number of good pages of one
family, with skipped messages before, between and after them (R214), the first bad page ends the operation, whatever
well-framed messages follow. A page of the other family is `FormatError`; else a wrong payload length is
`FormatError`; else a wrong checksum is `ChecksumMismatch`; else a page that does not follow the one before it is
`AddressDiscontinuity`. A stream of skipped messages only, or of none, is `FormatError`. -/
def Obligations.Syx2dumpErrors : Prop :=
  ∀ (s : State) (key : Vector Byte 13) (cmd : Byte) (p : Nat) (xs : List DumpPage) (before : List Bytes),
    s.cfg.transportKey = some key → cmd = 0x74 ∨ cmd = 0x34 → (∀ x ∈ xs, x.sound) →
    (∀ body ∈ before, skipped body) → p + xs.length ≤ 2 ^ 16 →
    let good := dumpStream s.cfg.ckBitOrder key cmd p xs ++ framedBytes before
    let endsWith : ErrKind → Prop := fun k => ∃ dp info,
      exec .syx2dump s = .next (s.endedErr { s.par with opc := some 0x0F } dp ⟨k, info⟩) ∧
        dp.seq = .failed ∧ dp.events = []
    (xs = [] → s.inBuf = good → endsWith .formatError) ∧
    ∀ (model c : Byte) (payload : Bytes) (later : List Bytes), model.toNat < 0x80 → c = 0x74 ∨ c = 0x34 →
      (∀ b ∈ payload, b.toNat < 0x80) → (∀ b ∈ later.flatten, b.toNat < 0x80) →
      s.inBuf = good ++ messageBytes model c payload ++ framedBytes later →
      let plain := tcipher key (expand payload)
      let ck := ckPage s.cfg.ckBitOrder (plain.drop 3)
      (xs ≠ [] → c ≠ cmd → endsWith .formatError) ∧
      (xs = [] ∨ c = cmd →
        (payload.length ≠ 296 → endsWith .formatError) ∧
        (payload.length = 296 → byteAt plain 2 ≠ ck → endsWith .checksumMismatch) ∧
        (payload.length = 296 → byteAt plain 2 = ck → xs ≠ [] →
          (byteAt plain 0 ++ byteAt plain 1).toNat ≠ p + xs.length → endsWith .addressDiscontinuity))

/-- `DUMP2SYX` on a legal range (R230, R231): 16 messages of 303 bytes for every sector, each a write of the next page
index whose payload is of 7-bit bytes (R81) and carries its 256 bytes of the sector under `WCIPHER` with the sector's
seed (R147), and the checksum of these ciphered bytes (R165). `SEED_OF` is the entry the host gave for the address,
else its low 16 bits (R147, log 8). Every other base (below `0x2000` too, spec/20_memory.md R55), model byte and range
is a `FormatError` with nothing built. -/
def Obligations.Dump2syxResult : Prop :=
  (∀ (s : State) (key : Vector Byte 13) (base : Addr) (model : Byte), s.cfg.transportKey = some key →
    let len := alignUp s.inBuf.length 4096
    let d := s.inBuf ++ List.replicate (len - s.inBuf.length) 0
    let par : ParamRegs := { s.par with opc := some 0x10, base := some base, model := some model }
    (legalRange s.cfg.addrLimit base model len → ∃ out dp,
      exec (.dump2syx base model) s = .next (s.endedOk par dp (onlyBytes out)) ∧
      dp = { s.startDp .done with wreg := dp.wreg, ck := dp.ck, tki := dp.tki } ∧ out.length = 303 * (len / 256) ∧
      ∀ i, i < len / 256 →
        let m := (out.drop (303 * i)).take 303
        let pidx : Half := BitVec.ofNat 16 (base.toNat / 256 + i)
        let seed := s.cfg.seedOf.at (BitVec.ofNat 24 (base.toNat + 4096 * (i / 16)))
        let sector := wcipher seed ((d.drop (4096 * (i / 16))).take 4096)
        let data := (sector.drop (256 * (i % 16))).take 256
        m.take 6 = [0xF0, 0x00, 0x20, 0x32, model, 0x34] ∧ byteAt m 302 = 0xF7 ∧
        (∀ b ∈ (m.drop 6).take 296, b.toNat < 0x80) ∧
        tcipher key (expand ((m.drop 6).take 296)) =
          [pidx.extractLsb' 8 8, pidx.extractLsb' 0 8, ckPage s.cfg.ckBitOrder data] ++ data) ∧
    (¬legalRange s.cfg.addrLimit base model len → ∃ info,
      exec (.dump2syx base model) s = .next (s.endedErr par (s.startDp .failed) ⟨.formatError, info⟩))) ∧
  ∀ (f : SeedOf) (a : Addr),
    ((∀ v, (a, v) ∉ f.entries) → f.at a = a.setWidth 16) ∧
    ∀ v before after, f.entries = before ++ (a, v) :: after → (∀ w, (a, w) ∉ before) → f.at a = v

/-- The stream of `DUMP2SYX` decodes to the zero-filled dump at its base, with no event; each of its messages alone
decodes to its own page at its own address; the empty dump gives the empty stream, which has no page (R232, R223). -/
def Obligations.Syx2dumpInvertsDump2syx : Prop :=
  ∀ (s : State) (key : Vector Byte 13) (base : Addr) (model : Byte), s.cfg.transportKey = some key →
    let d := s.inBuf ++ List.replicate (alignUp s.inBuf.length 4096 - s.inBuf.length) 0
    legalRange s.cfg.addrLimit base model d.length →
    (0 < s.inBuf.length → ∃ t u, exec (.dump2syx base model) s = .next t ∧
      exec .syx2dump { t with inBuf := t.outBuf } = .next u ∧
      u.result = some (okResult ⟨d, some base, none, none⟩ []) ∧
      ∀ i, i < d.length / 256 → ∃ v, exec .syx2dump { t with inBuf := (t.outBuf.drop (303 * i)).take 303 } = .next v ∧
        v.result = some (okResult
          ⟨(d.drop (256 * i)).take 256, some (BitVec.ofNat 24 (base.toNat + 256 * i)), none, none⟩ [])) ∧
    (s.inBuf = [] → ∃ t u, exec (.dump2syx base model) s = .next t ∧ t.returned (onlyBytes []) ∧
      exec .syx2dump { t with inBuf := [] } = .next u ∧ u.errKind = some .formatError)

/-- `SYX2OS(OS2SYX(x))` returns `x` with its base (R242, R240, R241). -/
def Obligations.Syx2osInvertsOs2syx : Prop :=
  ∀ (s : State) (key : Vector Byte 13) (t1 : Vector Word 15) (t2 : Vector Word 14) (base : Addr) (model : Byte),
    s.cfg.transportKey = some key → s.cfg.osT1 = some t1 → s.cfg.osT2 = some t2 → imageFits s.inBuf →
    legalRange s.cfg.addrLimit base model (alignUp (8 + align4 s.inBuf.length) 4096) →
    ∃ t u out, exec (.os2syx base model) s = .next t ∧ t.returned (onlyBytes out) ∧ t.outBuf = out ∧
      t.par = { s.par with opc := some 0x12, base := some base, model := some model } ∧
      exec .syx2os { t with inBuf := out } = .next u ∧ u.returned ⟨s.inBuf, some base, none, none⟩ ∧
      u.par = { t.par with opc := some 0x11 }

/-- The composite conversions act as their expansions (spec/30_encoding.md R113): the first part's error ends them,
else the second part's status and output are theirs, `SYX2OS` with the first part's base, and the events of both parts
come in order. -/
def Obligations.CompositesActAsTheirParts : Prop :=
  ∀ (s : State) (t1 : Vector Word 15) (t2 : Vector Word 14) (base : Addr) (model : Byte) (t : State),
    s.cfg.osT1 = some t1 → s.cfg.osT2 = some t2 →
    (exec .syx2dump s = .next t → ∃ v, exec .syx2os s = .next v ∧
      (∀ k, t.errKind = some k → v.errKind = some k ∧ v.lastEvents = t.lastEvents) ∧
      ∀ o, t.returned o → ∃ u, exec .dump2os { t with inBuf := o.out } = .next u ∧ v.errKind = u.errKind ∧
        v.lastEvents = t.lastEvents ++ u.lastEvents ∧
        ∀ image, u.returned (onlyBytes image) → v.returned { o with out := image }) ∧
    (exec .os2dump s = .next t → s.cfg.transportKey ≠ none → ∃ v, exec (.os2syx base model) s = .next v ∧
      (∀ k, t.errKind = some k → v.errKind = some k ∧ v.lastEvents = t.lastEvents) ∧
      ∀ dump, t.returned (onlyBytes dump) →
        ∃ u, exec (.dump2syx base model) { t with inBuf := dump } = .next u ∧ v.errKind = u.errKind ∧
          v.lastEvents = t.lastEvents ++ u.lastEvents ∧ ∀ o, u.returned o → v.returned o)

/-! ## The channel -/

/-- `RECVMSG` (R263): bytes before a message are dropped, real-time bytes inside it too; a second start byte inside a
message starts it afresh, another status byte drops the part read; the message and nothing after it is taken from the
channel. What any wait takes is the front of the script, in order; past the end every `Recv` is `NoData` (R260,
spec/20_memory.md R66). -/
def Obligations.RecvMsgFrames : Prop :=
  (∀ (gap bs cut : Bytes) (x : Byte) (rest : List RecvItem),
    (∀ b ∈ gap, b ≠ 0xF0) → (∀ b ∈ bs, b.toNat < 0x80 ∨ 0xF8 ≤ b.toNat) → (∀ b ∈ cut, b.toNat < 0x80 ∨ 0xF8 ≤ b.toNat) →
    0x80 ≤ x.toNat → x.toNat < 0xF8 → x ≠ 0xF7 → x ≠ 0xF0 →
    let m := 0xF0 :: bs ++ [0xF7]
    ∀ front ∈ [gap, 0xF0 :: cut, 0xF0 :: cut ++ [x] ++ gap],
      recvUntil (fun _ => false) .outside ((front ++ m).map .byte ++ rest) =
          ⟨some (framedMsg (bs.filter fun b => decide (b.toNat < 0x80))), rest, (front ++ m).map .byte⟩ ∧
        (recvUntil (fun _ => false) .outside (front.map .byte ++ .noData :: rest)).msg = none) ∧
  ∀ (skip : Bytes → Bool) (rx : RxState) (script : List RecvItem),
    let r := recvUntil skip rx script
    r.seen ++ r.rest = script ∨ (r.msg = none ∧ r.rest = [] ∧ r.seen = script ++ [.noData])

/-- `PROBE` (R265, R266): echoes of the request and foreign messages are skipped; the first other message with the
manufacturer bytes identifies the device; with none before the channel's silence, a `NoData` or the end of its script,
it is `DeviceNotFound`. A message is manufacturer-matching exactly when it has at least 7 bytes and its bytes 1 to 3 are
`00 20 32`, else foreign (spec/44_format_converter.md R212, R264). -/
def Obligations.ProbeFindsDevice : Prop :=
  (∀ m, isMfr m = true ↔ mfrMessage m) ∧
  ∀ (s : State) (req : Bytes) (chan : Byte) (bodies : List Bytes),
    s.cfg.probeRequest = some req → (∀ body ∈ bodies, probeEcho req body) →
    let par : ParamRegs := { s.par with opc := some 0x13, chan := some chan }
    (∀ (model cmd : Byte) (payload : Bytes) (rest : List RecvItem),
      model.toNat < 0x80 → cmd.toNat < 0x80 → (∀ b ∈ payload, b.toNat < 0x80) → messageBytes model cmd payload ≠ req →
      scriptOf chan s.channels = some ((framedBytes bodies ++ messageBytes model cmd payload).map .byte ++ rest) →
      ∃ t, exec (.probe chan) s = .next t ∧ t.returned ⟨[], none, none, some chan⟩ ∧
        t.dp = s.startDp .done ∧ t.openChan = none ∧ t.sent = s.sent ++ req ∧ t.par = par ∧
        scriptOf chan t.channels = some rest ∧ ∀ c, c ≠ chan → scriptOf c t.channels = scriptOf c s.channels) ∧
    ∀ after : List RecvItem, after = [] ∨ after.head? = some .noData →
      scriptOf chan s.channels = some ((framedBytes bodies).map .byte ++ after) →
      ∃ t, exec (.probe chan) s = .next t ∧ t.errKind = some .deviceNotFound ∧
        t.dp = s.startDp .failed ∧ t.openChan = none ∧ t.sent = s.sent ++ req ∧ t.par = par ∧
        scriptOf chan t.channels = some (after.drop 1) ∧ ∀ c, c ≠ chan → scriptOf c t.channels = scriptOf c s.channels

/-- `DETECT` (R268): candidates that do not open, or on which only echoes, foreign messages and silence come, are passed
over; the first that answers is the result and no later one is probed; with none, `DeviceNotFound`. Every candidate that
opens is sent the request once for each time it is tried. -/
def Obligations.DetectTakesFirstAnswer : Prop :=
  ∀ (s : State) (req : Bytes) (silent : Bytes), s.cfg.probeRequest = some req →
    (∀ c ∈ silent, ∀ script, scriptOf c s.channels = some script → silentScript req script) →
    let asked := ((silent.filter fun c => (scriptOf c s.channels).isSome).map fun _ => req).flatten
    (∃ t, exec (.detect silent) s = .next t ∧ t.errKind = some .deviceNotFound ∧ t.dp.seq = .failed ∧
      t.sent = s.sent ++ asked) ∧
    ∀ (chan model cmd : Byte) (bodies : List Bytes) (payload later : Bytes) (rest : List RecvItem),
      (∀ body ∈ bodies, probeEcho req body) → model.toNat < 0x80 → cmd.toNat < 0x80 →
      (∀ b ∈ payload, b.toNat < 0x80) → messageBytes model cmd payload ≠ req →
      scriptOf chan s.channels = some ((framedBytes bodies ++ messageBytes model cmd payload).map .byte ++ rest) →
      ∃ t, exec (.detect (silent ++ chan :: later)) s = .next t ∧ t.returned ⟨[], none, none, some chan⟩ ∧
        t.dp = s.startDp .done ∧ t.openChan = none ∧ scriptOf chan t.channels = some rest ∧
        t.sent = s.sent ++ asked ++ req ∧
        ∀ c, c ∉ chan :: silent → scriptOf c t.channels = scriptOf c s.channels

/-- A channel the platform cannot open: `DeviceNotFound` before any byte is sent (R261), after the checks that come
before it: for `UPLOAD`, of any stream that is well framed. -/
def Obligations.UnopenableChannel : Prop :=
  ∀ (s : State) (chan : Byte) (i : Instr), scriptOf chan s.channels = none →
    (i = .probe chan ∧ s.cfg.probeRequest ≠ none) ∨
      (i = .upload chan ∧ s.cfg.transportKey ≠ none ∧ ∃ f : Framing, f.sound ∧ s.inBuf = f.stream) ∨
      (∃ model label, i = .display chan model label ∧ s.cfg.transportKey ≠ none ∧ model.toNat < 0x80) ∨
      (∃ start count model, i = .retrieve chan start count model ∧ s.cfg.transportKey ≠ none ∧
        s.cfg.readRequest ≠ none ∧ start.toNat % 0x100 = 0 ∧ count.toNat % 0x100 = 0 ∧ model.toNat < 0x80 ∧
        start.toNat + count.toNat ≤ s.cfg.addrLimit ∧ start.toNat + count.toNat ≤ 2 ^ 24) →
    ∃ t, exec i s = .next t ∧ t.errKind = some .deviceNotFound ∧ t.dp.seq = .failed ∧ t.sent = s.sent ∧
      t.channels = s.channels

/-- `UPLOAD` with no message that ends a sector (R270, R272, R273): every message goes out verbatim, the stray bytes
do not, nothing is awaited. A wait comes after exactly the manufacturer-matching messages of command `0x34` with a
296-byte payload and a page index of low nibble `0xF` (R272): never after a display packet, a readback page, a foreign
message or another page of a sector. -/
def Obligations.UploadWithoutWait : Prop :=
  (∀ key m, ackTrigger key m = true ↔ endsSector key m) ∧
  ∀ (s : State) (key : Vector Byte 13) (chan : Byte) (f : Framing), s.cfg.transportKey = some key → f.sound →
    (∀ p ∈ f.segs, ¬endsSector key (framedMsg p.2)) → s.inBuf = f.stream → scriptOf chan s.channels ≠ none →
    ∃ t, exec (.upload chan) s = .next t ∧ t.returned ⟨[], none, some [], none⟩ ∧ t.sent = s.sent ++ f.clean ∧
      t.channels = s.channels ∧ t.openChan = none ∧ t.dp.seq = .done ∧ (t.lastEvents = [] ↔ f.noStray) ∧
      t.par = { s.par with opc := some 0x15, chan := some chan }

/-- `UPLOAD` of any number of sectors (R270, R272, R276, R277, R87): after each sixteenth page one wait, in which
echoes are discarded and the acknowledgment of status 0 to 3 is reported with its address, most significant byte
first, in sector order; the acknowledgments are ciphered as `ACK_CIPHERED` says (R83). The first wait reads with
`T_LONG`, the others with `T_SHORT` (spec/60_exceptions.md R330). -/
def Obligations.UploadReportsAcknowledgment : Prop :=
  ∀ (s : State) (key : Vector Byte 13) (chan model : Byte) (xs : List SectorExchange) (tail : List Bytes)
    (rest : List RecvItem), s.cfg.transportKey = some key → model.toNat < 0x80 → (∀ x ∈ xs, x.sound key) →
    (∀ b ∈ tail.flatten, b.toNat < 0x80) → (∀ body ∈ tail, ¬endsSector key (framedMsg body)) →
    s.inBuf = (xs.map (·.stream s.cfg.ckBitOrder key model)).flatten ++ framedBytes tail →
    let answers := xs.map (·.answer key s.cfg.ackCiphered model)
    scriptOf chan s.channels = some (answers.flatten.map .byte ++ rest) →
    ∃ t, exec (.upload chan) s = .next t ∧ t.returned ⟨[], none, some (xs.map (·.report)), none⟩ ∧
      t.sent = s.sent ++ s.inBuf ∧ t.timeouts = s.timeouts ++ waitClasses answers ∧
      scriptOf chan t.channels = some rest ∧ t.openChan = none ∧
      t.dp = { s.startDp .done with fbuf := t.dp.fbuf, tki := t.dp.tki, reports := xs.map (·.report) } ∧
      t.par = { s.par with opc := some 0x15, chan := some chan }

/-- The flow-control boundary (R273, R276, R278, spec/20_memory.md R67): where a sector is not acknowledged, `UPLOAD`
ends, no report is returned and no byte after that sector's sixteenth page was sent. With no answer it is
`ProtocolTimeout`; with an acknowledgment that is empty, no whole number of groups, or of status 4 to 255 (R87), with
another command or a foreign message, `UnexpectedResponse`. -/
def Obligations.UploadStopsAtUnacknowledgedSector : Prop :=
  ∀ (s : State) (key : Vector Byte 13) (chan model : Byte) (xs : List SectorExchange) (before after : List Bytes)
    (body : Bytes) (echoes : List Bytes) (answer : List RecvItem) (k : ErrKind),
    s.cfg.transportKey = some key → model.toNat < 0x80 → (∀ x ∈ xs, x.sound key) →
    (∀ b ∈ (before ++ body :: after).flatten, b.toNat < 0x80) →
    (∀ x ∈ before, ¬endsSector key (framedMsg x)) → endsSector key (framedMsg body) →
    (∀ b ∈ echoes.flatten, b.toNat < 0x80) →
    s.inBuf = (xs.map (·.stream s.cfg.ckBitOrder key model)).flatten ++ framedBytes (before ++ body :: after) →
    scriptOf chan s.channels = some (((xs.map (·.answer key s.cfg.ackCiphered model)).flatten ++
      (echoes.map (messageBytes model 0x34)).flatten).map .byte ++ answer) →
    (k = .protocolTimeout ∧ (answer = [] ∨ answer.head? = some .noData)) ∨
      (k = .unexpectedResponse ∧ ∃ (reply : Bytes) (rest : List RecvItem), answer = reply.map .byte ++ rest ∧
        ((∃ payload, reply = messageBytes model 0x35 payload ∧ (∀ b ∈ payload, b.toNat < 0x80) ∧
            (payload = [] ∨ payload.length % 8 ≠ 0)) ∨
          (∃ addr status more, reply = ackMsg key s.cfg.ackCiphered model addr status more ∧ 3 < status.toNat ∧
            (3 + more.length) % 7 = 0) ∨
          (∃ cmd payload, reply = messageBytes model cmd payload ∧ cmd.toNat < 0x80 ∧ cmd ≠ 0x34 ∧ cmd ≠ 0x35 ∧
            ∀ b ∈ payload, b.toNat < 0x80) ∨
          ∃ foreign, reply = framedMsg foreign ∧ (∀ b ∈ foreign, b.toNat < 0x80) ∧ ¬mfrMessage reply)) →
    ∃ t, exec (.upload chan) s = .next t ∧ t.errKind = some k ∧
      (∀ r, t.result = some r → r.reports = none ∧ r.out = none) ∧ t.dp.seq = .failed ∧ t.openChan = none ∧
      t.sent = s.sent ++ (xs.map (·.stream s.cfg.ckBitOrder key model)).flatten ++ framedBytes (before ++ [body])

/-- `RETRIEVE` of any number of pages (R285, R292, R293): the requests go out in page order, echoes of a request are
discarded, the replies are returned in page order, byte for byte but for their command, which is `0x74`. The first wait
reads with `T_LONG`, the others with `T_SHORT` (spec/60_exceptions.md R330). `READ_REQUEST` is the first entry the host
gave for the model byte and the page index, else its default (spec/30_encoding.md R89, log 8). -/
def Obligations.RetrieveReturnsPages : Prop :=
  (∀ (f : ReadRequest) (model : Byte) (pidx : Half),
    ((∀ e ∈ f.entries, e.model = model → e.pidx ≠ pidx) → f.at model pidx = f.fallback) ∧
    ∀ payload before after, f.entries = before ++ ⟨model, pidx, payload⟩ :: after →
      (∀ e ∈ before, e.model = model → e.pidx ≠ pidx) → f.at model pidx = payload) ∧
  ∀ (s : State) (key : Vector Byte 13) (rr : ReadRequest) (chan model : Byte) (start count : Addr) (p : Nat)
    (xs : List PageExchange) (rest : List RecvItem), s.cfg.transportKey = some key → s.cfg.readRequest = some rr →
    model.toNat < 0x80 → (∀ x ∈ xs, x.sound) → start.toNat = 256 * p → count.toNat = 256 * xs.length →
    start.toNat + count.toNat ≤ s.cfg.addrLimit → start.toNat + count.toNat ≤ 2 ^ 24 →
    let order := s.cfg.ckBitOrder
    let answers := (xs.zipIdx p).map fun x => x.1.answer order key model x.2
    scriptOf chan s.channels = some (answers.flatten.map .byte ++ rest) →
    ∃ t, exec (.retrieve chan start count model) s = .next t ∧
      t.returned (onlyBytes ((xs.zipIdx p).map fun x => x.1.reply order key 0x74 x.2).flatten) ∧
      t.sent = s.sent ++ pageRequests rr model p xs.length ∧ t.timeouts = s.timeouts ++ waitClasses answers ∧
      scriptOf chan t.channels = some rest ∧ t.openChan = none ∧
      t.dp = { s.startDp .done with
        ck := (xs.getLast?.map fun x => (ckPage order x.data).setWidth 9).getD 0
        tki := if xs = [] then 0 else 12
        page := xs.length } ∧
      t.par = { s.par with
        opc := some 0x16, chan := some chan, start := some start, count := some count, model := some model }

/-- The checks of `RETRIEVE` (R285, R292, R295, spec/60_exceptions.md R313): before the channel opens, with nothing
sent; on `COUNT = 0`, which sends nothing; and in the wait for a page, after any number of good ones: silence is
`ProtocolTimeout`, a reply of another length, of another page, with another command or foreign `UnexpectedResponse`, a
wrong page checksum `ChecksumMismatch`, and no page is returned and none requested after it. -/
def Obligations.RetrieveChecks : Prop :=
  ∀ (s : State) (key : Vector Byte 13) (rr : ReadRequest) (chan : Byte) (start count : Addr) (model : Byte),
    s.cfg.transportKey = some key → s.cfg.readRequest = some rr →
    (start.toNat % 0x100 ≠ 0 ∨ count.toNat % 0x100 ≠ 0 ∨ 0x80 ≤ model.toNat ∨
        s.cfg.addrLimit < start.toNat + count.toNat ∨ 2 ^ 24 < start.toNat + count.toNat →
      ∃ t, exec (.retrieve chan start count model) s = .next t ∧ t.errKind = some .formatError ∧ t.sent = s.sent ∧
        t.channels = s.channels ∧ t.dp = s.startDp .failed) ∧
    (start.toNat % 0x100 = 0 → count = 0 → model.toNat < 0x80 → start.toNat ≤ s.cfg.addrLimit →
      scriptOf chan s.channels ≠ none →
      ∃ t, exec (.retrieve chan start count model) s = .next t ∧ t.returned (onlyBytes []) ∧ t.sent = s.sent ∧
        t.channels = s.channels ∧ t.dp = s.startDp .done) ∧
    ∀ (p n : Nat) (xs : List PageExchange) (echoes : List Bytes) (answer : List RecvItem) (k : ErrKind),
      start.toNat = 256 * p → count.toNat = 256 * n → xs.length < n → model.toNat < 0x80 →
      start.toNat + count.toNat ≤ s.cfg.addrLimit → start.toNat + count.toNat ≤ 2 ^ 24 → (∀ x ∈ xs, x.sound) →
      (∀ b ∈ echoes.flatten, b.toNat < 0x80) →
      scriptOf chan s.channels = some ((((xs.zipIdx p).map fun x => x.1.answer s.cfg.ckBitOrder key model x.2).flatten ++
        (echoes.map (messageBytes model 0x74)).flatten).map .byte ++ answer) →
      (k = .protocolTimeout ∧ (answer = [] ∨ answer.head? = some .noData)) ∨
        (∃ (cmd : Byte) (payload : Bytes) (rest : List RecvItem), cmd.toNat < 0x80 ∧ (∀ b ∈ payload, b.toNat < 0x80) ∧
          answer = (messageBytes model cmd payload).map .byte ++ rest ∧
          let plain := tcipher key (expand payload)
          let good := byteAt plain 2 = ckPage s.cfg.ckBitOrder (plain.drop 3)
          ((k = .unexpectedResponse ∧ cmd ≠ 0x34 ∧ cmd ≠ 0x74) ∨
            (k = .unexpectedResponse ∧ cmd = 0x34 ∧ payload.length ≠ 296) ∨
            (k = .checksumMismatch ∧ cmd = 0x34 ∧ payload.length = 296 ∧ ¬good) ∨
            (k = .unexpectedResponse ∧ cmd = 0x34 ∧ payload.length = 296 ∧ good ∧
              byteAt plain 0 ++ byteAt plain 1 ≠ BitVec.ofNat 16 (p + xs.length)))) ∨
        (k = .unexpectedResponse ∧ ∃ (foreign : Bytes) (rest : List RecvItem), (∀ b ∈ foreign, b.toNat < 0x80) ∧
          ¬mfrMessage (framedMsg foreign) ∧ answer = (framedMsg foreign).map .byte ++ rest) →
      ∃ t, exec (.retrieve chan start count model) s = .next t ∧ t.errKind = some k ∧
        (∀ r, t.result = some r → r.out = none) ∧ t.dp.seq = .failed ∧ t.openChan = none ∧
        t.sent = s.sent ++ pageRequests rr model p (xs.length + 1)

/-- Every page message `RETRIEVE` returns has command `0x74` (R293). -/
def Obligations.RetrieveOutputIsReadback : Prop :=
  ∀ (s t : State) (chan : Byte) (start count : Addr) (model : Byte) (o : Output),
    exec (.retrieve chan start count model) s = .next t → t.returned o →
    o.out.length = 303 * (count.toNat / 256) ∧
      ∀ i, i < count.toNat / 256 →
        (o.out.drop (303 * i)).take 4 = [0xF0, 0x00, 0x20, 0x32] ∧ byteAt o.out (303 * i + 5) = 0x74

/-- `DISPLAY` (R300, R86): one write message of 15 bytes, its payload of 7-bit bytes (R81, R124), that carries the
sentinel, the label's checksum and the label; no reply is read, the channel is closed (spec/70_reset_and_hazards.md
R343); `FormatError` for a model byte that is not 7-bit. -/
def Obligations.DisplaySendsPacket : Prop :=
  ∀ (s : State) (key : Vector Byte 13) (chan model : Byte) (label : Label), s.cfg.transportKey = some key →
    (model.toNat < 0x80 → scriptOf chan s.channels ≠ none → ∃ t payload,
      exec (.display chan model label) s = .next t ∧ t.returned (onlyBytes []) ∧
      t.sent = s.sent ++ ([0xF0, 0x00, 0x20, 0x32, model, 0x34] ++ payload ++ [0xF7]) ∧ payload.length = 8 ∧
      (∀ b ∈ payload, b.toNat < 0x80) ∧
      expand payload = tcipher key ([0xFF, 0x00, ckPage s.cfg.ckBitOrder label.bytes] ++ label.bytes) ∧
      t.dp = { s.startDp .done with ck := (ckPage s.cfg.ckBitOrder label.bytes).setWidth 9, tki := 7 } ∧
      t.channels = s.channels ∧ t.openChan = none ∧
      t.par = { s.par with opc := some 0x17, chan := some chan, model := some model, label := some label }) ∧
    (0x80 ≤ model.toNat → ∃ t, exec (.display chan model label) s = .next t ∧ t.errKind = some .formatError ∧
      t.sent = s.sent ∧ t.channels = s.channels)

/-! ## The wire messages as instructions (the model's reading of the table's message rows, log 11) -/

/-- Outside a wait a message changes nothing (spec/60_exceptions.md R325; log 11). -/
def Obligations.MessageOutsideWaitDoesNothing : Prop :=
  ∀ (s : State) (model : Byte) (payload : Bytes), s.dp.seq.isRest = true →
    exec (.msgProbe model payload) s = .next s ∧ exec (.msgPageWrite model payload) s = .next s ∧
      exec (.msgAck model payload) s = .next s ∧ exec (.msgPageRead model payload) s = .next s

/-- Messages in an acknowledgment wait (R93, R276): the write is an echo, the acknowledgment is reported, the others end
the operation with `UnexpectedResponse` (log 11). -/
def Obligations.MessagesInAckWait : Prop :=
  ∀ (s : State) (key : Vector Byte 13) (model : Byte), s.cfg.transportKey = some key → s.dp.seq = .upWaitAck →
    (∀ payload, exec (.msgPageWrite model payload) s = .next s) ∧
    (∀ (addr : Half) (status : Byte) (more : Bytes), s.cfg.ackCiphered = true → status.toNat ≤ 3 →
      (3 + more.length) % 7 = 0 →
      let plain := [addr.extractLsb' 8 8, addr.extractLsb' 0 8, status] ++ more
      ∃ t, exec (.msgAck model (pack (tcipher key plain))) s = .next t ∧
        t.dp = { s.dp with tki := t.dp.tki, reports := s.dp.reports ++ [⟨addr, status⟩], seq := .upSend } ∧
        t.openChan = s.openChan ∧ t.par = s.par ∧ t.channels = s.channels ∧ t.result = s.result) ∧
    (∀ payload i, i = .msgProbe model payload ∨ i = .msgPageRead model payload →
      ∃ t, exec i s = .next t ∧ t.errKind = some .unexpectedResponse ∧ t.dp.seq = .failed ∧ t.openChan = none)

/-- Messages in a page wait (R93, R292, R293): the read is an echo, the requested page is taken with its command
rewritten, the others end the operation with `UnexpectedResponse` (log 11). -/
def Obligations.MessagesInPageWait : Prop :=
  ∀ (s : State) (key : Vector Byte 13) (model : Byte) (start count : Addr), s.cfg.transportKey = some key →
    s.dp.seq = .rtWait → s.par.start = some start → s.par.count = some count →
    (∀ payload, exec (.msgPageRead model payload) s = .next s) ∧
    (∀ data, data.length = 256 →
      let pidx := BitVec.ofNat 16 (start.toNat / 256 + s.dp.page)
      let payload := pagePayload s.cfg.ckBitOrder key pidx data
      ∃ t, exec (.msgPageWrite model payload) s = .next t ∧
        t.outBuf = s.outBuf ++ messageBytes model 0x74 payload ∧ t.dp.page = s.dp.page + 1 ∧
        (s.dp.page + 1 < count.toNat / 256 → t.dp.seq = .rtSend ∧ t.result = s.result) ∧
        (count.toNat / 256 ≤ s.dp.page + 1 → t.dp.seq = .done ∧ t.returned (onlyBytes t.outBuf))) ∧
    (∀ payload i, i = .msgProbe model payload ∨ i = .msgAck model payload →
      ∃ t, exec i s = .next t ∧ t.errKind = some .unexpectedResponse ∧ t.dp.seq = .failed ∧ t.openChan = none)

/-- Messages in the wait of a probe (R265, R266): the echo of the request is skipped, every other one identifies the
device (log 11). -/
def Obligations.MessagesInProbeWait : Prop :=
  ∀ (s : State) (req : Bytes) (chan model cmd : Byte) (payload : Bytes) (i : Instr),
    s.cfg.probeRequest = some req → s.openChan = some chan → s.dp.seq = .probeWait →
    (cmd = 0x01 ∧ i = .msgProbe model payload) ∨ (cmd = 0x34 ∧ i = .msgPageWrite model payload) ∨
      (cmd = 0x35 ∧ i = .msgAck model payload) ∨ (cmd = 0x74 ∧ i = .msgPageRead model payload) →
    (messageBytes model cmd payload = req → exec i s = .next s) ∧
    (messageBytes model cmd payload ≠ req → ∃ t, exec i s = .next t ∧ t.returned ⟨[], none, none, some chan⟩ ∧
      t.dp.seq = .done ∧ t.openChan = none)

/-! ## The whole machine -/

/-- No instruction writes a configuration register (spec/10_state.md R23) or takes the host's next act; of the parameter
registers only `OPC` and the operands it was started with are written (R20, R22), and `IN` stays as the host supplied it
(log 7; an operation never writes `IN`, spec/20_memory.md R52). -/
def Obligations.OperationsWriteNoConfiguration : Prop :=
  ∀ (i : Instr) (s t : State), exec i s = .next t →
    t.cfg = s.cfg ∧ t.par = latched i s.par ∧ t.inBuf = s.inBuf ∧ t.inbox = s.inbox

/-- The conversions leave the channels and the port alone (spec/20_memory.md R65), and end the sequencer: `DONE` when
the operation ends OK, `FAILED` when it ends with an error (spec/10_state.md R28, spec/60_exceptions.md R314; log 2).
A refused one leaves the datapath as it stood (log 3). The trace is the model's (log 19). -/
def Obligations.ConversionsTouchNoChannel : Prop :=
  ∀ (i : Instr) (s t : State), isConversion i = true → exec i s = .next t →
    t.channels = s.channels ∧ t.openChan = s.openChan ∧
      (((∃ o, t.returned o) ∧ t.dp.seq = .done ∧ t.trace = s.trace ++ [.seq .done]) ∨
        (t.errKind ≠ none ∧ t.dp.seq = .failed ∧ t.trace = s.trace ++ [.seq .failed]) ∨
        (t.result = some refusedResult ∧ t.dp = s.dp ∧ t.trace = s.trace))

/-- No datapath state survives from one operation to the next (spec/10_state.md R31, spec/70_reset_and_hazards.md R341):
the result, and what is left of the channels' scripts, depend on the configuration, `IN` and the scripts alone. -/
def Obligations.OperationsKeepNoState : Prop :=
  ∀ (i : Instr) (s s' t t' : State), isConversion i = true ∨ isChannelOp i = true →
    s.cfg = s'.cfg → s.inBuf = s'.inBuf → s.channels = s'.channels →
    exec i s = .next t → exec i s' = .next t' → t.result = t'.result ∧ t.channels = t'.channels

/-- A channel operation that ends OK leaves `SEQ` at `DONE`, one that ends with an error at `FAILED`, and its channel is
closed (R28, R305, spec/70_reset_and_hazards.md R343). -/
def Obligations.ChannelOperationsEndTheSequencer : Prop :=
  ∀ (i : Instr) (s t : State), isChannelOp i = true → exec i s = .next t →
    (∀ o, t.returned o → t.dp.seq = .done ∧ t.openChan = none) ∧
      ∀ k, t.errKind = some k → t.dp.seq = .failed ∧ t.openChan = none

/-- Every step keeps the state between operations: no channel open, `SEQ` at rest, the checksum register in eight bits
(R28, R160, R343). -/
def Obligations.EveryStepKeepsRest : Prop :=
  ∀ s t : State, s.atRest = true → step s = .next t → t.atRest = true

/-- Every step keeps that at most one event is held (spec/60_exceptions.md R322). -/
def Obligations.EveryStepKeepsOneEvent : Prop :=
  ∀ s t : State, s.oneEvent = true → step s = .next t → t.oneEvent = true

/-- The two invariants hold after power-on. -/
def Obligations.ResetMeetsInvariants : Prop :=
  State.reset.atRest = true ∧ State.reset.oneEvent = true

/-- The buffer operations (spec/20_memory.md R52): `append` writes at the end, what stood there reads as before, and the
cells of a buffer keep the canonical form. -/
def Obligations.AppendKeepsBuffer : Prop :=
  ∀ buf v : Bytes, append buf v = buf ++ v ∧ memRead (append buf v) buf.length v.length = .ok v ∧
    (∀ a n, a + n ≤ buf.length → memRead (append buf v) a n = memRead buf a n) ∧
    (∀ a n, buf.length < a + n → memRead buf a n = .error .readPastEnd) ∧ Memory.wf (Memory.cells buf) = true
end

