-- ==== Sys2Proof/Laws/State.lean ====
section
/-! SUPPORT. One lemma per field per update of State, each true by unfolding the update once. -/

namespace Sys2Proof.Machine

/-! ## `State.latch` -/

@[simp] theorem State.latch_cfg (s : State) (f : ParamRegs → ParamRegs) : (s.latch f).cfg = s.cfg := rfl
@[simp] theorem State.latch_par (s : State) (f : ParamRegs → ParamRegs) : (s.latch f).par = f s.par := rfl
@[simp] theorem State.latch_dp (s : State) (f : ParamRegs → ParamRegs) : (s.latch f).dp = s.dp := rfl
@[simp] theorem State.latch_inBuf (s : State) (f : ParamRegs → ParamRegs) : (s.latch f).inBuf = s.inBuf := rfl
@[simp] theorem State.latch_outBuf (s : State) (f : ParamRegs → ParamRegs) : (s.latch f).outBuf = s.outBuf := rfl
@[simp] theorem State.latch_result (s : State) (f : ParamRegs → ParamRegs) : (s.latch f).result = s.result := rfl
@[simp] theorem State.latch_channels (s : State) (f : ParamRegs → ParamRegs) : (s.latch f).channels = s.channels := rfl
@[simp] theorem State.latch_openChan (s : State) (f : ParamRegs → ParamRegs) : (s.latch f).openChan = s.openChan := rfl
@[simp] theorem State.latch_trace (s : State) (f : ParamRegs → ParamRegs) : (s.latch f).trace = s.trace := rfl
@[simp] theorem State.latch_inbox (s : State) (f : ParamRegs → ParamRegs) : (s.latch f).inbox = s.inbox := rfl
@[simp] theorem State.latch_freeCount (s : State) (f : ParamRegs → ParamRegs) : (s.latch f).freeCount = s.freeCount := rfl

/-! ## `State.begin` -/

@[simp] theorem State.begin_cfg (s : State) : (s.begin).cfg = s.cfg := rfl
@[simp] theorem State.begin_par (s : State) : (s.begin).par = s.par := rfl
@[simp] theorem State.begin_dp (s : State) : (s.begin).dp = Datapath.start (Config.unspecifiedWreg s.freeCount) := rfl
@[simp] theorem State.begin_inBuf (s : State) : (s.begin).inBuf = s.inBuf := rfl
@[simp] theorem State.begin_outBuf (s : State) : (s.begin).outBuf = [] := rfl
@[simp] theorem State.begin_result (s : State) : (s.begin).result = s.result := rfl
@[simp] theorem State.begin_channels (s : State) : (s.begin).channels = s.channels := rfl
@[simp] theorem State.begin_openChan (s : State) : (s.begin).openChan = s.openChan := rfl
@[simp] theorem State.begin_trace (s : State) : (s.begin).trace = s.trace := rfl
@[simp] theorem State.begin_inbox (s : State) : (s.begin).inbox = s.inbox := rfl
@[simp] theorem State.begin_freeCount (s : State) : (s.begin).freeCount = s.freeCount + 1 := rfl

/-! ## `State.returnOk` -/

@[simp] theorem State.returnOk_cfg (s : State) (o : Output) : (s.returnOk o).cfg = s.cfg := rfl
@[simp] theorem State.returnOk_par (s : State) (o : Output) : (s.returnOk o).par = s.par := rfl
@[simp] theorem State.returnOk_dp (s : State) (o : Output) : (s.returnOk o).dp = s.dp := rfl
@[simp] theorem State.returnOk_inBuf (s : State) (o : Output) : (s.returnOk o).inBuf = s.inBuf := rfl
@[simp] theorem State.returnOk_outBuf (s : State) (o : Output) : (s.returnOk o).outBuf = o.out := rfl
@[simp] theorem State.returnOk_result (s : State) (o : Output) : (s.returnOk o).result = some (Result.ofOutput o s.dp.events) := rfl
@[simp] theorem State.returnOk_channels (s : State) (o : Output) : (s.returnOk o).channels = s.channels := rfl
@[simp] theorem State.returnOk_openChan (s : State) (o : Output) : (s.returnOk o).openChan = s.openChan := rfl
@[simp] theorem State.returnOk_trace (s : State) (o : Output) : (s.returnOk o).trace = s.trace := rfl
@[simp] theorem State.returnOk_inbox (s : State) (o : Output) : (s.returnOk o).inbox = s.inbox := rfl
@[simp] theorem State.returnOk_freeCount (s : State) (o : Output) : (s.returnOk o).freeCount = s.freeCount := rfl

/-! ## `State.returnError` -/

@[simp] theorem State.returnError_cfg (s : State) (e : Err) : (s.returnError e).cfg = s.cfg := rfl
@[simp] theorem State.returnError_par (s : State) (e : Err) : (s.returnError e).par = s.par := rfl
@[simp] theorem State.returnError_dp (s : State) (e : Err) : (s.returnError e).dp = s.dp := rfl
@[simp] theorem State.returnError_inBuf (s : State) (e : Err) : (s.returnError e).inBuf = s.inBuf := rfl
@[simp] theorem State.returnError_outBuf (s : State) (e : Err) : (s.returnError e).outBuf = s.outBuf := rfl
@[simp] theorem State.returnError_result (s : State) (e : Err) : (s.returnError e).result = some (Result.ofErr e s.dp.events) := rfl
@[simp] theorem State.returnError_channels (s : State) (e : Err) : (s.returnError e).channels = s.channels := rfl
@[simp] theorem State.returnError_openChan (s : State) (e : Err) : (s.returnError e).openChan = s.openChan := rfl
@[simp] theorem State.returnError_trace (s : State) (e : Err) : (s.returnError e).trace = s.trace := rfl
@[simp] theorem State.returnError_inbox (s : State) (e : Err) : (s.returnError e).inbox = s.inbox := rfl
@[simp] theorem State.returnError_freeCount (s : State) (e : Err) : (s.returnError e).freeCount = s.freeCount := rfl

/-! ## `State.refuse` -/

@[simp] theorem State.refuse_cfg (s : State) : (s.refuse).cfg = s.cfg := rfl
@[simp] theorem State.refuse_par (s : State) : (s.refuse).par = s.par := rfl
@[simp] theorem State.refuse_dp (s : State) : (s.refuse).dp = s.dp := rfl
@[simp] theorem State.refuse_inBuf (s : State) : (s.refuse).inBuf = s.inBuf := rfl
@[simp] theorem State.refuse_outBuf (s : State) : (s.refuse).outBuf = s.outBuf := rfl
@[simp] theorem State.refuse_result (s : State) : (s.refuse).result = some Result.ofRefusal := rfl
@[simp] theorem State.refuse_channels (s : State) : (s.refuse).channels = s.channels := rfl
@[simp] theorem State.refuse_openChan (s : State) : (s.refuse).openChan = s.openChan := rfl
@[simp] theorem State.refuse_trace (s : State) : (s.refuse).trace = s.trace := rfl
@[simp] theorem State.refuse_inbox (s : State) : (s.refuse).inbox = s.inbox := rfl
@[simp] theorem State.refuse_freeCount (s : State) : (s.refuse).freeCount = s.freeCount := rfl

/-! ## `State.setSeq` -/

@[simp] theorem State.setSeq_cfg (s : State) (q : SeqState) : (s.setSeq q).cfg = s.cfg := rfl
@[simp] theorem State.setSeq_par (s : State) (q : SeqState) : (s.setSeq q).par = s.par := rfl
@[simp] theorem State.setSeq_wreg (s : State) (q : SeqState) : (s.setSeq q).dp.wreg = s.dp.wreg := rfl
@[simp] theorem State.setSeq_ck (s : State) (q : SeqState) : (s.setSeq q).dp.ck = s.dp.ck := rfl
@[simp] theorem State.setSeq_tki (s : State) (q : SeqState) : (s.setSeq q).dp.tki = s.dp.tki := rfl
@[simp] theorem State.setSeq_dmagic (s : State) (q : SeqState) : (s.setSeq q).dp.dmagic = s.dp.dmagic := rfl
@[simp] theorem State.setSeq_isum (s : State) (q : SeqState) : (s.setSeq q).dp.isum = s.dp.isum := rfl
@[simp] theorem State.setSeq_wofs (s : State) (q : SeqState) : (s.setSeq q).dp.wofs = s.dp.wofs := rfl
@[simp] theorem State.setSeq_fstate (s : State) (q : SeqState) : (s.setSeq q).dp.fstate = s.dp.fstate := rfl
@[simp] theorem State.setSeq_fbuf (s : State) (q : SeqState) : (s.setSeq q).dp.fbuf = s.dp.fbuf := rfl
@[simp] theorem State.setSeq_warned (s : State) (q : SeqState) : (s.setSeq q).dp.warned = s.dp.warned := rfl
@[simp] theorem State.setSeq_family (s : State) (q : SeqState) : (s.setSeq q).dp.family = s.dp.family := rfl
@[simp] theorem State.setSeq_lastAddr (s : State) (q : SeqState) : (s.setSeq q).dp.lastAddr = s.dp.lastAddr := rfl
@[simp] theorem State.setSeq_dbase (s : State) (q : SeqState) : (s.setSeq q).dp.dbase = s.dp.dbase := rfl
@[simp] theorem State.setSeq_seq (s : State) (q : SeqState) : (s.setSeq q).dp.seq = q := rfl
@[simp] theorem State.setSeq_reports (s : State) (q : SeqState) : (s.setSeq q).dp.reports = s.dp.reports := rfl
@[simp] theorem State.setSeq_events (s : State) (q : SeqState) : (s.setSeq q).dp.events = s.dp.events := rfl
@[simp] theorem State.setSeq_page (s : State) (q : SeqState) : (s.setSeq q).dp.page = s.dp.page := rfl
@[simp] theorem State.setSeq_inBuf (s : State) (q : SeqState) : (s.setSeq q).inBuf = s.inBuf := rfl
@[simp] theorem State.setSeq_outBuf (s : State) (q : SeqState) : (s.setSeq q).outBuf = s.outBuf := rfl
@[simp] theorem State.setSeq_result (s : State) (q : SeqState) : (s.setSeq q).result = s.result := rfl
@[simp] theorem State.setSeq_channels (s : State) (q : SeqState) : (s.setSeq q).channels = s.channels := rfl
@[simp] theorem State.setSeq_openChan (s : State) (q : SeqState) : (s.setSeq q).openChan = s.openChan := rfl
@[simp] theorem State.setSeq_trace (s : State) (q : SeqState) : (s.setSeq q).trace = s.trace ++ [.seq q] := rfl
@[simp] theorem State.setSeq_inbox (s : State) (q : SeqState) : (s.setSeq q).inbox = s.inbox := rfl
@[simp] theorem State.setSeq_freeCount (s : State) (q : SeqState) : (s.setSeq q).freeCount = s.freeCount := rfl

/-! ## `State.sendMsg` -/

@[simp] theorem State.sendMsg_cfg (s : State) (m : Bytes) : (s.sendMsg m).cfg = s.cfg := rfl
@[simp] theorem State.sendMsg_par (s : State) (m : Bytes) : (s.sendMsg m).par = s.par := rfl
@[simp] theorem State.sendMsg_dp (s : State) (m : Bytes) : (s.sendMsg m).dp = s.dp := rfl
@[simp] theorem State.sendMsg_inBuf (s : State) (m : Bytes) : (s.sendMsg m).inBuf = s.inBuf := rfl
@[simp] theorem State.sendMsg_outBuf (s : State) (m : Bytes) : (s.sendMsg m).outBuf = s.outBuf := rfl
@[simp] theorem State.sendMsg_result (s : State) (m : Bytes) : (s.sendMsg m).result = s.result := rfl
@[simp] theorem State.sendMsg_channels (s : State) (m : Bytes) : (s.sendMsg m).channels = s.channels := rfl
@[simp] theorem State.sendMsg_openChan (s : State) (m : Bytes) : (s.sendMsg m).openChan = s.openChan := rfl
@[simp] theorem State.sendMsg_trace (s : State) (m : Bytes) : (s.sendMsg m).trace = s.trace ++ m.map .send ++ [.flush] := rfl
@[simp] theorem State.sendMsg_inbox (s : State) (m : Bytes) : (s.sendMsg m).inbox = s.inbox := rfl
@[simp] theorem State.sendMsg_freeCount (s : State) (m : Bytes) : (s.sendMsg m).freeCount = s.freeCount := rfl

/-! ## `State.putTki` -/

@[simp] theorem State.putTki_cfg (s : State) (i : Fin 13) : (s.putTki i).cfg = s.cfg := rfl
@[simp] theorem State.putTki_par (s : State) (i : Fin 13) : (s.putTki i).par = s.par := rfl
@[simp] theorem State.putTki_wreg (s : State) (i : Fin 13) : (s.putTki i).dp.wreg = s.dp.wreg := rfl
@[simp] theorem State.putTki_ck (s : State) (i : Fin 13) : (s.putTki i).dp.ck = s.dp.ck := rfl
@[simp] theorem State.putTki_tki (s : State) (i : Fin 13) : (s.putTki i).dp.tki = i := rfl
@[simp] theorem State.putTki_dmagic (s : State) (i : Fin 13) : (s.putTki i).dp.dmagic = s.dp.dmagic := rfl
@[simp] theorem State.putTki_isum (s : State) (i : Fin 13) : (s.putTki i).dp.isum = s.dp.isum := rfl
@[simp] theorem State.putTki_wofs (s : State) (i : Fin 13) : (s.putTki i).dp.wofs = s.dp.wofs := rfl
@[simp] theorem State.putTki_fstate (s : State) (i : Fin 13) : (s.putTki i).dp.fstate = s.dp.fstate := rfl
@[simp] theorem State.putTki_fbuf (s : State) (i : Fin 13) : (s.putTki i).dp.fbuf = s.dp.fbuf := rfl
@[simp] theorem State.putTki_warned (s : State) (i : Fin 13) : (s.putTki i).dp.warned = s.dp.warned := rfl
@[simp] theorem State.putTki_family (s : State) (i : Fin 13) : (s.putTki i).dp.family = s.dp.family := rfl
@[simp] theorem State.putTki_lastAddr (s : State) (i : Fin 13) : (s.putTki i).dp.lastAddr = s.dp.lastAddr := rfl
@[simp] theorem State.putTki_dbase (s : State) (i : Fin 13) : (s.putTki i).dp.dbase = s.dp.dbase := rfl
@[simp] theorem State.putTki_seq (s : State) (i : Fin 13) : (s.putTki i).dp.seq = s.dp.seq := rfl
@[simp] theorem State.putTki_reports (s : State) (i : Fin 13) : (s.putTki i).dp.reports = s.dp.reports := rfl
@[simp] theorem State.putTki_events (s : State) (i : Fin 13) : (s.putTki i).dp.events = s.dp.events := rfl
@[simp] theorem State.putTki_page (s : State) (i : Fin 13) : (s.putTki i).dp.page = s.dp.page := rfl
@[simp] theorem State.putTki_inBuf (s : State) (i : Fin 13) : (s.putTki i).inBuf = s.inBuf := rfl
@[simp] theorem State.putTki_outBuf (s : State) (i : Fin 13) : (s.putTki i).outBuf = s.outBuf := rfl
@[simp] theorem State.putTki_result (s : State) (i : Fin 13) : (s.putTki i).result = s.result := rfl
@[simp] theorem State.putTki_channels (s : State) (i : Fin 13) : (s.putTki i).channels = s.channels := rfl
@[simp] theorem State.putTki_openChan (s : State) (i : Fin 13) : (s.putTki i).openChan = s.openChan := rfl
@[simp] theorem State.putTki_trace (s : State) (i : Fin 13) : (s.putTki i).trace = s.trace := rfl
@[simp] theorem State.putTki_inbox (s : State) (i : Fin 13) : (s.putTki i).inbox = s.inbox := rfl
@[simp] theorem State.putTki_freeCount (s : State) (i : Fin 13) : (s.putTki i).freeCount = s.freeCount := rfl

/-! ## `State.putWreg` -/

@[simp] theorem State.putWreg_cfg (s : State) (w : Half) : (s.putWreg w).cfg = s.cfg := rfl
@[simp] theorem State.putWreg_par (s : State) (w : Half) : (s.putWreg w).par = s.par := rfl
@[simp] theorem State.putWreg_wreg (s : State) (w : Half) : (s.putWreg w).dp.wreg = w := rfl
@[simp] theorem State.putWreg_ck (s : State) (w : Half) : (s.putWreg w).dp.ck = s.dp.ck := rfl
@[simp] theorem State.putWreg_tki (s : State) (w : Half) : (s.putWreg w).dp.tki = s.dp.tki := rfl
@[simp] theorem State.putWreg_dmagic (s : State) (w : Half) : (s.putWreg w).dp.dmagic = s.dp.dmagic := rfl
@[simp] theorem State.putWreg_isum (s : State) (w : Half) : (s.putWreg w).dp.isum = s.dp.isum := rfl
@[simp] theorem State.putWreg_wofs (s : State) (w : Half) : (s.putWreg w).dp.wofs = s.dp.wofs := rfl
@[simp] theorem State.putWreg_fstate (s : State) (w : Half) : (s.putWreg w).dp.fstate = s.dp.fstate := rfl
@[simp] theorem State.putWreg_fbuf (s : State) (w : Half) : (s.putWreg w).dp.fbuf = s.dp.fbuf := rfl
@[simp] theorem State.putWreg_warned (s : State) (w : Half) : (s.putWreg w).dp.warned = s.dp.warned := rfl
@[simp] theorem State.putWreg_family (s : State) (w : Half) : (s.putWreg w).dp.family = s.dp.family := rfl
@[simp] theorem State.putWreg_lastAddr (s : State) (w : Half) : (s.putWreg w).dp.lastAddr = s.dp.lastAddr := rfl
@[simp] theorem State.putWreg_dbase (s : State) (w : Half) : (s.putWreg w).dp.dbase = s.dp.dbase := rfl
@[simp] theorem State.putWreg_seq (s : State) (w : Half) : (s.putWreg w).dp.seq = s.dp.seq := rfl
@[simp] theorem State.putWreg_reports (s : State) (w : Half) : (s.putWreg w).dp.reports = s.dp.reports := rfl
@[simp] theorem State.putWreg_events (s : State) (w : Half) : (s.putWreg w).dp.events = s.dp.events := rfl
@[simp] theorem State.putWreg_page (s : State) (w : Half) : (s.putWreg w).dp.page = s.dp.page := rfl
@[simp] theorem State.putWreg_inBuf (s : State) (w : Half) : (s.putWreg w).inBuf = s.inBuf := rfl
@[simp] theorem State.putWreg_outBuf (s : State) (w : Half) : (s.putWreg w).outBuf = s.outBuf := rfl
@[simp] theorem State.putWreg_result (s : State) (w : Half) : (s.putWreg w).result = s.result := rfl
@[simp] theorem State.putWreg_channels (s : State) (w : Half) : (s.putWreg w).channels = s.channels := rfl
@[simp] theorem State.putWreg_openChan (s : State) (w : Half) : (s.putWreg w).openChan = s.openChan := rfl
@[simp] theorem State.putWreg_trace (s : State) (w : Half) : (s.putWreg w).trace = s.trace := rfl
@[simp] theorem State.putWreg_inbox (s : State) (w : Half) : (s.putWreg w).inbox = s.inbox := rfl
@[simp] theorem State.putWreg_freeCount (s : State) (w : Half) : (s.putWreg w).freeCount = s.freeCount := rfl

/-! ## `State.putCk` -/

@[simp] theorem State.putCk_cfg (s : State) (ck : BitVec 9) : (s.putCk ck).cfg = s.cfg := rfl
@[simp] theorem State.putCk_par (s : State) (ck : BitVec 9) : (s.putCk ck).par = s.par := rfl
@[simp] theorem State.putCk_wreg (s : State) (ck : BitVec 9) : (s.putCk ck).dp.wreg = s.dp.wreg := rfl
@[simp] theorem State.putCk_ck (s : State) (ck : BitVec 9) : (s.putCk ck).dp.ck = ck := rfl
@[simp] theorem State.putCk_tki (s : State) (ck : BitVec 9) : (s.putCk ck).dp.tki = s.dp.tki := rfl
@[simp] theorem State.putCk_dmagic (s : State) (ck : BitVec 9) : (s.putCk ck).dp.dmagic = s.dp.dmagic := rfl
@[simp] theorem State.putCk_isum (s : State) (ck : BitVec 9) : (s.putCk ck).dp.isum = s.dp.isum := rfl
@[simp] theorem State.putCk_wofs (s : State) (ck : BitVec 9) : (s.putCk ck).dp.wofs = s.dp.wofs := rfl
@[simp] theorem State.putCk_fstate (s : State) (ck : BitVec 9) : (s.putCk ck).dp.fstate = s.dp.fstate := rfl
@[simp] theorem State.putCk_fbuf (s : State) (ck : BitVec 9) : (s.putCk ck).dp.fbuf = s.dp.fbuf := rfl
@[simp] theorem State.putCk_warned (s : State) (ck : BitVec 9) : (s.putCk ck).dp.warned = s.dp.warned := rfl
@[simp] theorem State.putCk_family (s : State) (ck : BitVec 9) : (s.putCk ck).dp.family = s.dp.family := rfl
@[simp] theorem State.putCk_lastAddr (s : State) (ck : BitVec 9) : (s.putCk ck).dp.lastAddr = s.dp.lastAddr := rfl
@[simp] theorem State.putCk_dbase (s : State) (ck : BitVec 9) : (s.putCk ck).dp.dbase = s.dp.dbase := rfl
@[simp] theorem State.putCk_seq (s : State) (ck : BitVec 9) : (s.putCk ck).dp.seq = s.dp.seq := rfl
@[simp] theorem State.putCk_reports (s : State) (ck : BitVec 9) : (s.putCk ck).dp.reports = s.dp.reports := rfl
@[simp] theorem State.putCk_events (s : State) (ck : BitVec 9) : (s.putCk ck).dp.events = s.dp.events := rfl
@[simp] theorem State.putCk_page (s : State) (ck : BitVec 9) : (s.putCk ck).dp.page = s.dp.page := rfl
@[simp] theorem State.putCk_inBuf (s : State) (ck : BitVec 9) : (s.putCk ck).inBuf = s.inBuf := rfl
@[simp] theorem State.putCk_outBuf (s : State) (ck : BitVec 9) : (s.putCk ck).outBuf = s.outBuf := rfl
@[simp] theorem State.putCk_result (s : State) (ck : BitVec 9) : (s.putCk ck).result = s.result := rfl
@[simp] theorem State.putCk_channels (s : State) (ck : BitVec 9) : (s.putCk ck).channels = s.channels := rfl
@[simp] theorem State.putCk_openChan (s : State) (ck : BitVec 9) : (s.putCk ck).openChan = s.openChan := rfl
@[simp] theorem State.putCk_trace (s : State) (ck : BitVec 9) : (s.putCk ck).trace = s.trace := rfl
@[simp] theorem State.putCk_inbox (s : State) (ck : BitVec 9) : (s.putCk ck).inbox = s.inbox := rfl
@[simp] theorem State.putCk_freeCount (s : State) (ck : BitVec 9) : (s.putCk ck).freeCount = s.freeCount := rfl

/-! ## `State.putImageSum` -/

@[simp] theorem State.putImageSum_cfg (s : State) (a : ImageSum) : (s.putImageSum a).cfg = s.cfg := rfl
@[simp] theorem State.putImageSum_par (s : State) (a : ImageSum) : (s.putImageSum a).par = s.par := rfl
@[simp] theorem State.putImageSum_wreg (s : State) (a : ImageSum) : (s.putImageSum a).dp.wreg = s.dp.wreg := rfl
@[simp] theorem State.putImageSum_ck (s : State) (a : ImageSum) : (s.putImageSum a).dp.ck = s.dp.ck := rfl
@[simp] theorem State.putImageSum_tki (s : State) (a : ImageSum) : (s.putImageSum a).dp.tki = s.dp.tki := rfl
@[simp] theorem State.putImageSum_dmagic (s : State) (a : ImageSum) : (s.putImageSum a).dp.dmagic = a.dmagic := rfl
@[simp] theorem State.putImageSum_isum (s : State) (a : ImageSum) : (s.putImageSum a).dp.isum = a.isum := rfl
@[simp] theorem State.putImageSum_wofs (s : State) (a : ImageSum) : (s.putImageSum a).dp.wofs = s.dp.wofs := rfl
@[simp] theorem State.putImageSum_fstate (s : State) (a : ImageSum) : (s.putImageSum a).dp.fstate = s.dp.fstate := rfl
@[simp] theorem State.putImageSum_fbuf (s : State) (a : ImageSum) : (s.putImageSum a).dp.fbuf = s.dp.fbuf := rfl
@[simp] theorem State.putImageSum_warned (s : State) (a : ImageSum) : (s.putImageSum a).dp.warned = s.dp.warned := rfl
@[simp] theorem State.putImageSum_family (s : State) (a : ImageSum) : (s.putImageSum a).dp.family = s.dp.family := rfl
@[simp] theorem State.putImageSum_lastAddr (s : State) (a : ImageSum) : (s.putImageSum a).dp.lastAddr = s.dp.lastAddr := rfl
@[simp] theorem State.putImageSum_dbase (s : State) (a : ImageSum) : (s.putImageSum a).dp.dbase = s.dp.dbase := rfl
@[simp] theorem State.putImageSum_seq (s : State) (a : ImageSum) : (s.putImageSum a).dp.seq = s.dp.seq := rfl
@[simp] theorem State.putImageSum_reports (s : State) (a : ImageSum) : (s.putImageSum a).dp.reports = s.dp.reports := rfl
@[simp] theorem State.putImageSum_events (s : State) (a : ImageSum) : (s.putImageSum a).dp.events = s.dp.events := rfl
@[simp] theorem State.putImageSum_page (s : State) (a : ImageSum) : (s.putImageSum a).dp.page = s.dp.page := rfl
@[simp] theorem State.putImageSum_inBuf (s : State) (a : ImageSum) : (s.putImageSum a).inBuf = s.inBuf := rfl
@[simp] theorem State.putImageSum_outBuf (s : State) (a : ImageSum) : (s.putImageSum a).outBuf = s.outBuf := rfl
@[simp] theorem State.putImageSum_result (s : State) (a : ImageSum) : (s.putImageSum a).result = s.result := rfl
@[simp] theorem State.putImageSum_channels (s : State) (a : ImageSum) : (s.putImageSum a).channels = s.channels := rfl
@[simp] theorem State.putImageSum_openChan (s : State) (a : ImageSum) : (s.putImageSum a).openChan = s.openChan := rfl
@[simp] theorem State.putImageSum_trace (s : State) (a : ImageSum) : (s.putImageSum a).trace = s.trace := rfl
@[simp] theorem State.putImageSum_inbox (s : State) (a : ImageSum) : (s.putImageSum a).inbox = s.inbox := rfl
@[simp] theorem State.putImageSum_freeCount (s : State) (a : ImageSum) : (s.putImageSum a).freeCount = s.freeCount := rfl

/-! ## `State.putWofs` -/

@[simp] theorem State.putWofs_cfg (s : State) (o : Nat) : (s.putWofs o).cfg = s.cfg := rfl
@[simp] theorem State.putWofs_par (s : State) (o : Nat) : (s.putWofs o).par = s.par := rfl
@[simp] theorem State.putWofs_wreg (s : State) (o : Nat) : (s.putWofs o).dp.wreg = s.dp.wreg := rfl
@[simp] theorem State.putWofs_ck (s : State) (o : Nat) : (s.putWofs o).dp.ck = s.dp.ck := rfl
@[simp] theorem State.putWofs_tki (s : State) (o : Nat) : (s.putWofs o).dp.tki = s.dp.tki := rfl
@[simp] theorem State.putWofs_dmagic (s : State) (o : Nat) : (s.putWofs o).dp.dmagic = s.dp.dmagic := rfl
@[simp] theorem State.putWofs_isum (s : State) (o : Nat) : (s.putWofs o).dp.isum = s.dp.isum := rfl
@[simp] theorem State.putWofs_wofs (s : State) (o : Nat) : (s.putWofs o).dp.wofs = BitVec.ofNat 32 o := rfl
@[simp] theorem State.putWofs_fstate (s : State) (o : Nat) : (s.putWofs o).dp.fstate = s.dp.fstate := rfl
@[simp] theorem State.putWofs_fbuf (s : State) (o : Nat) : (s.putWofs o).dp.fbuf = s.dp.fbuf := rfl
@[simp] theorem State.putWofs_warned (s : State) (o : Nat) : (s.putWofs o).dp.warned = s.dp.warned := rfl
@[simp] theorem State.putWofs_family (s : State) (o : Nat) : (s.putWofs o).dp.family = s.dp.family := rfl
@[simp] theorem State.putWofs_lastAddr (s : State) (o : Nat) : (s.putWofs o).dp.lastAddr = s.dp.lastAddr := rfl
@[simp] theorem State.putWofs_dbase (s : State) (o : Nat) : (s.putWofs o).dp.dbase = s.dp.dbase := rfl
@[simp] theorem State.putWofs_seq (s : State) (o : Nat) : (s.putWofs o).dp.seq = s.dp.seq := rfl
@[simp] theorem State.putWofs_reports (s : State) (o : Nat) : (s.putWofs o).dp.reports = s.dp.reports := rfl
@[simp] theorem State.putWofs_events (s : State) (o : Nat) : (s.putWofs o).dp.events = s.dp.events := rfl
@[simp] theorem State.putWofs_page (s : State) (o : Nat) : (s.putWofs o).dp.page = s.dp.page := rfl
@[simp] theorem State.putWofs_inBuf (s : State) (o : Nat) : (s.putWofs o).inBuf = s.inBuf := rfl
@[simp] theorem State.putWofs_outBuf (s : State) (o : Nat) : (s.putWofs o).outBuf = s.outBuf := rfl
@[simp] theorem State.putWofs_result (s : State) (o : Nat) : (s.putWofs o).result = s.result := rfl
@[simp] theorem State.putWofs_channels (s : State) (o : Nat) : (s.putWofs o).channels = s.channels := rfl
@[simp] theorem State.putWofs_openChan (s : State) (o : Nat) : (s.putWofs o).openChan = s.openChan := rfl
@[simp] theorem State.putWofs_trace (s : State) (o : Nat) : (s.putWofs o).trace = s.trace := rfl
@[simp] theorem State.putWofs_inbox (s : State) (o : Nat) : (s.putWofs o).inbox = s.inbox := rfl
@[simp] theorem State.putWofs_freeCount (s : State) (o : Nat) : (s.putWofs o).freeCount = s.freeCount := rfl

/-! ## `State.putFrame` -/

@[simp] theorem State.putFrame_cfg (s : State) (r : FrameRun) : (s.putFrame r).cfg = s.cfg := rfl
@[simp] theorem State.putFrame_par (s : State) (r : FrameRun) : (s.putFrame r).par = s.par := rfl
@[simp] theorem State.putFrame_wreg (s : State) (r : FrameRun) : (s.putFrame r).dp.wreg = s.dp.wreg := rfl
@[simp] theorem State.putFrame_ck (s : State) (r : FrameRun) : (s.putFrame r).dp.ck = s.dp.ck := rfl
@[simp] theorem State.putFrame_tki (s : State) (r : FrameRun) : (s.putFrame r).dp.tki = s.dp.tki := rfl
@[simp] theorem State.putFrame_dmagic (s : State) (r : FrameRun) : (s.putFrame r).dp.dmagic = s.dp.dmagic := rfl
@[simp] theorem State.putFrame_isum (s : State) (r : FrameRun) : (s.putFrame r).dp.isum = s.dp.isum := rfl
@[simp] theorem State.putFrame_wofs (s : State) (r : FrameRun) : (s.putFrame r).dp.wofs = s.dp.wofs := rfl
@[simp] theorem State.putFrame_fstate (s : State) (r : FrameRun) : (s.putFrame r).dp.fstate = r.fstate := rfl
@[simp] theorem State.putFrame_fbuf (s : State) (r : FrameRun) : (s.putFrame r).dp.fbuf = r.fbuf := rfl
@[simp] theorem State.putFrame_warned (s : State) (r : FrameRun) : (s.putFrame r).dp.warned = r.framed.warned := rfl
@[simp] theorem State.putFrame_family (s : State) (r : FrameRun) : (s.putFrame r).dp.family = s.dp.family := rfl
@[simp] theorem State.putFrame_lastAddr (s : State) (r : FrameRun) : (s.putFrame r).dp.lastAddr = s.dp.lastAddr := rfl
@[simp] theorem State.putFrame_dbase (s : State) (r : FrameRun) : (s.putFrame r).dp.dbase = s.dp.dbase := rfl
@[simp] theorem State.putFrame_seq (s : State) (r : FrameRun) : (s.putFrame r).dp.seq = s.dp.seq := rfl
@[simp] theorem State.putFrame_reports (s : State) (r : FrameRun) : (s.putFrame r).dp.reports = s.dp.reports := rfl
@[simp] theorem State.putFrame_events (s : State) (r : FrameRun) : (s.putFrame r).dp.events = r.framed.events := rfl
@[simp] theorem State.putFrame_page (s : State) (r : FrameRun) : (s.putFrame r).dp.page = s.dp.page := rfl
@[simp] theorem State.putFrame_inBuf (s : State) (r : FrameRun) : (s.putFrame r).inBuf = s.inBuf := rfl
@[simp] theorem State.putFrame_outBuf (s : State) (r : FrameRun) : (s.putFrame r).outBuf = s.outBuf := rfl
@[simp] theorem State.putFrame_result (s : State) (r : FrameRun) : (s.putFrame r).result = s.result := rfl
@[simp] theorem State.putFrame_channels (s : State) (r : FrameRun) : (s.putFrame r).channels = s.channels := rfl
@[simp] theorem State.putFrame_openChan (s : State) (r : FrameRun) : (s.putFrame r).openChan = s.openChan := rfl
@[simp] theorem State.putFrame_trace (s : State) (r : FrameRun) : (s.putFrame r).trace = s.trace := rfl
@[simp] theorem State.putFrame_inbox (s : State) (r : FrameRun) : (s.putFrame r).inbox = s.inbox := rfl
@[simp] theorem State.putFrame_freeCount (s : State) (r : FrameRun) : (s.putFrame r).freeCount = s.freeCount := rfl

/-! ## `State.acceptPage` -/

@[simp] theorem State.acceptPage_cfg (s : State) (a : Addr) : (s.acceptPage a).cfg = s.cfg := rfl
@[simp] theorem State.acceptPage_par (s : State) (a : Addr) : (s.acceptPage a).par = s.par := rfl
@[simp] theorem State.acceptPage_wreg (s : State) (a : Addr) : (s.acceptPage a).dp.wreg = s.dp.wreg := rfl
@[simp] theorem State.acceptPage_ck (s : State) (a : Addr) : (s.acceptPage a).dp.ck = s.dp.ck := rfl
@[simp] theorem State.acceptPage_tki (s : State) (a : Addr) : (s.acceptPage a).dp.tki = s.dp.tki := rfl
@[simp] theorem State.acceptPage_dmagic (s : State) (a : Addr) : (s.acceptPage a).dp.dmagic = s.dp.dmagic := rfl
@[simp] theorem State.acceptPage_isum (s : State) (a : Addr) : (s.acceptPage a).dp.isum = s.dp.isum := rfl
@[simp] theorem State.acceptPage_wofs (s : State) (a : Addr) : (s.acceptPage a).dp.wofs = s.dp.wofs := rfl
@[simp] theorem State.acceptPage_fstate (s : State) (a : Addr) : (s.acceptPage a).dp.fstate = s.dp.fstate := rfl
@[simp] theorem State.acceptPage_fbuf (s : State) (a : Addr) : (s.acceptPage a).dp.fbuf = s.dp.fbuf := rfl
@[simp] theorem State.acceptPage_warned (s : State) (a : Addr) : (s.acceptPage a).dp.warned = s.dp.warned := rfl
@[simp] theorem State.acceptPage_family (s : State) (a : Addr) : (s.acceptPage a).dp.family = s.dp.family := rfl
@[simp] theorem State.acceptPage_lastAddr (s : State) (a : Addr) : (s.acceptPage a).dp.lastAddr = some a := rfl
@[simp] theorem State.acceptPage_dbase (s : State) (a : Addr) : (s.acceptPage a).dp.dbase = some (s.dp.dbase.getD a) := rfl
@[simp] theorem State.acceptPage_seq (s : State) (a : Addr) : (s.acceptPage a).dp.seq = s.dp.seq := rfl
@[simp] theorem State.acceptPage_reports (s : State) (a : Addr) : (s.acceptPage a).dp.reports = s.dp.reports := rfl
@[simp] theorem State.acceptPage_events (s : State) (a : Addr) : (s.acceptPage a).dp.events = s.dp.events := rfl
@[simp] theorem State.acceptPage_page (s : State) (a : Addr) : (s.acceptPage a).dp.page = s.dp.page := rfl
@[simp] theorem State.acceptPage_inBuf (s : State) (a : Addr) : (s.acceptPage a).inBuf = s.inBuf := rfl
@[simp] theorem State.acceptPage_outBuf (s : State) (a : Addr) : (s.acceptPage a).outBuf = s.outBuf := rfl
@[simp] theorem State.acceptPage_result (s : State) (a : Addr) : (s.acceptPage a).result = s.result := rfl
@[simp] theorem State.acceptPage_channels (s : State) (a : Addr) : (s.acceptPage a).channels = s.channels := rfl
@[simp] theorem State.acceptPage_openChan (s : State) (a : Addr) : (s.acceptPage a).openChan = s.openChan := rfl
@[simp] theorem State.acceptPage_trace (s : State) (a : Addr) : (s.acceptPage a).trace = s.trace := rfl
@[simp] theorem State.acceptPage_inbox (s : State) (a : Addr) : (s.acceptPage a).inbox = s.inbox := rfl
@[simp] theorem State.acceptPage_freeCount (s : State) (a : Addr) : (s.acceptPage a).freeCount = s.freeCount := rfl

/-! ## `State.addReport` -/

@[simp] theorem State.addReport_cfg (s : State) (r : Report) : (s.addReport r).cfg = s.cfg := rfl
@[simp] theorem State.addReport_par (s : State) (r : Report) : (s.addReport r).par = s.par := rfl
@[simp] theorem State.addReport_wreg (s : State) (r : Report) : (s.addReport r).dp.wreg = s.dp.wreg := rfl
@[simp] theorem State.addReport_ck (s : State) (r : Report) : (s.addReport r).dp.ck = s.dp.ck := rfl
@[simp] theorem State.addReport_tki (s : State) (r : Report) : (s.addReport r).dp.tki = s.dp.tki := rfl
@[simp] theorem State.addReport_dmagic (s : State) (r : Report) : (s.addReport r).dp.dmagic = s.dp.dmagic := rfl
@[simp] theorem State.addReport_isum (s : State) (r : Report) : (s.addReport r).dp.isum = s.dp.isum := rfl
@[simp] theorem State.addReport_wofs (s : State) (r : Report) : (s.addReport r).dp.wofs = s.dp.wofs := rfl
@[simp] theorem State.addReport_fstate (s : State) (r : Report) : (s.addReport r).dp.fstate = s.dp.fstate := rfl
@[simp] theorem State.addReport_fbuf (s : State) (r : Report) : (s.addReport r).dp.fbuf = s.dp.fbuf := rfl
@[simp] theorem State.addReport_warned (s : State) (r : Report) : (s.addReport r).dp.warned = s.dp.warned := rfl
@[simp] theorem State.addReport_family (s : State) (r : Report) : (s.addReport r).dp.family = s.dp.family := rfl
@[simp] theorem State.addReport_lastAddr (s : State) (r : Report) : (s.addReport r).dp.lastAddr = s.dp.lastAddr := rfl
@[simp] theorem State.addReport_dbase (s : State) (r : Report) : (s.addReport r).dp.dbase = s.dp.dbase := rfl
@[simp] theorem State.addReport_seq (s : State) (r : Report) : (s.addReport r).dp.seq = s.dp.seq := rfl
@[simp] theorem State.addReport_reports (s : State) (r : Report) : (s.addReport r).dp.reports = s.dp.reports ++ [r] := rfl
@[simp] theorem State.addReport_events (s : State) (r : Report) : (s.addReport r).dp.events = s.dp.events := rfl
@[simp] theorem State.addReport_page (s : State) (r : Report) : (s.addReport r).dp.page = s.dp.page := rfl
@[simp] theorem State.addReport_inBuf (s : State) (r : Report) : (s.addReport r).inBuf = s.inBuf := rfl
@[simp] theorem State.addReport_outBuf (s : State) (r : Report) : (s.addReport r).outBuf = s.outBuf := rfl
@[simp] theorem State.addReport_result (s : State) (r : Report) : (s.addReport r).result = s.result := rfl
@[simp] theorem State.addReport_channels (s : State) (r : Report) : (s.addReport r).channels = s.channels := rfl
@[simp] theorem State.addReport_openChan (s : State) (r : Report) : (s.addReport r).openChan = s.openChan := rfl
@[simp] theorem State.addReport_trace (s : State) (r : Report) : (s.addReport r).trace = s.trace := rfl
@[simp] theorem State.addReport_inbox (s : State) (r : Report) : (s.addReport r).inbox = s.inbox := rfl
@[simp] theorem State.addReport_freeCount (s : State) (r : Report) : (s.addReport r).freeCount = s.freeCount := rfl

/-! ## `State.addReply` -/

@[simp] theorem State.addReply_cfg (s : State) (m : Bytes) : (s.addReply m).cfg = s.cfg := rfl
@[simp] theorem State.addReply_par (s : State) (m : Bytes) : (s.addReply m).par = s.par := rfl
@[simp] theorem State.addReply_wreg (s : State) (m : Bytes) : (s.addReply m).dp.wreg = s.dp.wreg := rfl
@[simp] theorem State.addReply_ck (s : State) (m : Bytes) : (s.addReply m).dp.ck = s.dp.ck := rfl
@[simp] theorem State.addReply_tki (s : State) (m : Bytes) : (s.addReply m).dp.tki = s.dp.tki := rfl
@[simp] theorem State.addReply_dmagic (s : State) (m : Bytes) : (s.addReply m).dp.dmagic = s.dp.dmagic := rfl
@[simp] theorem State.addReply_isum (s : State) (m : Bytes) : (s.addReply m).dp.isum = s.dp.isum := rfl
@[simp] theorem State.addReply_wofs (s : State) (m : Bytes) : (s.addReply m).dp.wofs = s.dp.wofs := rfl
@[simp] theorem State.addReply_fstate (s : State) (m : Bytes) : (s.addReply m).dp.fstate = s.dp.fstate := rfl
@[simp] theorem State.addReply_fbuf (s : State) (m : Bytes) : (s.addReply m).dp.fbuf = s.dp.fbuf := rfl
@[simp] theorem State.addReply_warned (s : State) (m : Bytes) : (s.addReply m).dp.warned = s.dp.warned := rfl
@[simp] theorem State.addReply_family (s : State) (m : Bytes) : (s.addReply m).dp.family = s.dp.family := rfl
@[simp] theorem State.addReply_lastAddr (s : State) (m : Bytes) : (s.addReply m).dp.lastAddr = s.dp.lastAddr := rfl
@[simp] theorem State.addReply_dbase (s : State) (m : Bytes) : (s.addReply m).dp.dbase = s.dp.dbase := rfl
@[simp] theorem State.addReply_seq (s : State) (m : Bytes) : (s.addReply m).dp.seq = s.dp.seq := rfl
@[simp] theorem State.addReply_reports (s : State) (m : Bytes) : (s.addReply m).dp.reports = s.dp.reports := rfl
@[simp] theorem State.addReply_events (s : State) (m : Bytes) : (s.addReply m).dp.events = s.dp.events := rfl
@[simp] theorem State.addReply_page (s : State) (m : Bytes) : (s.addReply m).dp.page = s.dp.page + 1 := rfl
@[simp] theorem State.addReply_inBuf (s : State) (m : Bytes) : (s.addReply m).inBuf = s.inBuf := rfl
@[simp] theorem State.addReply_outBuf (s : State) (m : Bytes) : (s.addReply m).outBuf = append s.outBuf (rewriteReply m) := rfl
@[simp] theorem State.addReply_result (s : State) (m : Bytes) : (s.addReply m).result = s.result := rfl
@[simp] theorem State.addReply_channels (s : State) (m : Bytes) : (s.addReply m).channels = s.channels := rfl
@[simp] theorem State.addReply_openChan (s : State) (m : Bytes) : (s.addReply m).openChan = s.openChan := rfl
@[simp] theorem State.addReply_trace (s : State) (m : Bytes) : (s.addReply m).trace = s.trace := rfl
@[simp] theorem State.addReply_inbox (s : State) (m : Bytes) : (s.addReply m).inbox = s.inbox := rfl
@[simp] theorem State.addReply_freeCount (s : State) (m : Bytes) : (s.addReply m).freeCount = s.freeCount := rfl

/-! ## `State.placeFirst` -/

@[simp] theorem State.placeFirst_cfg (s : State) (r : Request) : (s.placeFirst r).cfg = s.cfg := rfl
@[simp] theorem State.placeFirst_par (s : State) (r : Request) : (s.placeFirst r).par = s.par := rfl
@[simp] theorem State.placeFirst_dp (s : State) (r : Request) : (s.placeFirst r).dp = s.dp := rfl
@[simp] theorem State.placeFirst_inBuf (s : State) (r : Request) : (s.placeFirst r).inBuf = s.inBuf := rfl
@[simp] theorem State.placeFirst_outBuf (s : State) (r : Request) : (s.placeFirst r).outBuf = s.outBuf := rfl
@[simp] theorem State.placeFirst_result (s : State) (r : Request) : (s.placeFirst r).result = s.result := rfl
@[simp] theorem State.placeFirst_channels (s : State) (r : Request) : (s.placeFirst r).channels = s.channels := rfl
@[simp] theorem State.placeFirst_openChan (s : State) (r : Request) : (s.placeFirst r).openChan = s.openChan := rfl
@[simp] theorem State.placeFirst_trace (s : State) (r : Request) : (s.placeFirst r).trace = s.trace := rfl
@[simp] theorem State.placeFirst_inbox (s : State) (r : Request) : (s.placeFirst r).inbox = r :: s.inbox := rfl
@[simp] theorem State.placeFirst_freeCount (s : State) (r : Request) : (s.placeFirst r).freeCount = s.freeCount := rfl

/-! ## `State.closePort` -/

@[simp] theorem State.closePort_cfg (s : State) : (s.closePort).cfg = s.cfg := by
  unfold State.closePort; split <;> rfl
@[simp] theorem State.closePort_par (s : State) : (s.closePort).par = s.par := by
  unfold State.closePort; split <;> rfl
@[simp] theorem State.closePort_dp (s : State) : (s.closePort).dp = s.dp := by
  unfold State.closePort; split <;> rfl
@[simp] theorem State.closePort_inBuf (s : State) : (s.closePort).inBuf = s.inBuf := by
  unfold State.closePort; split <;> rfl
@[simp] theorem State.closePort_outBuf (s : State) : (s.closePort).outBuf = s.outBuf := by
  unfold State.closePort; split <;> rfl
@[simp] theorem State.closePort_result (s : State) : (s.closePort).result = s.result := by
  unfold State.closePort; split <;> rfl
@[simp] theorem State.closePort_channels (s : State) : (s.closePort).channels = s.channels := by
  unfold State.closePort; split <;> rfl
@[simp] theorem State.closePort_inbox (s : State) : (s.closePort).inbox = s.inbox := by
  unfold State.closePort; split <;> rfl
@[simp] theorem State.closePort_freeCount (s : State) : (s.closePort).freeCount = s.freeCount := by
  unfold State.closePort; split <;> rfl
@[simp] theorem State.closePort_openChan (s : State) : (s.closePort).openChan = none := by
  unfold State.closePort; split <;> simp_all

/-- Closing a port that is not open changes nothing. -/
theorem State.closePort_of_none (s : State) (h : s.openChan = none) : s.closePort = s := by
  simp [State.closePort, h]

/-- Closing an open port is recorded. -/
theorem State.closePort_of_some (s : State) (c : Byte) (h : s.openChan = some c) :
    s.closePort = { s with openChan := none, trace := s.trace ++ [.closed c] } := by
  simp [State.closePort, h]

/-! ## The datapath at an operation's start -/

@[simp] theorem Datapath.start_wreg (w : Half) : (Datapath.start w).wreg = w := rfl
@[simp] theorem Datapath.start_ck (w : Half) : (Datapath.start w).ck = 0 := rfl
@[simp] theorem Datapath.start_tki (w : Half) : (Datapath.start w).tki = 0 := rfl
@[simp] theorem Datapath.start_dmagic (w : Half) : (Datapath.start w).dmagic = Config.dmagicInit := rfl
@[simp] theorem Datapath.start_isum (w : Half) : (Datapath.start w).isum = 0 := rfl
@[simp] theorem Datapath.start_wofs (w : Half) : (Datapath.start w).wofs = 0 := rfl
@[simp] theorem Datapath.start_fstate (w : Half) : (Datapath.start w).fstate = .outside := rfl
@[simp] theorem Datapath.start_fbuf (w : Half) : (Datapath.start w).fbuf = [] := rfl
@[simp] theorem Datapath.start_warned (w : Half) : (Datapath.start w).warned = false := rfl
@[simp] theorem Datapath.start_family (w : Half) : (Datapath.start w).family = .none := rfl
@[simp] theorem Datapath.start_lastAddr (w : Half) : (Datapath.start w).lastAddr = none := rfl
@[simp] theorem Datapath.start_dbase (w : Half) : (Datapath.start w).dbase = none := rfl
@[simp] theorem Datapath.start_seq (w : Half) : (Datapath.start w).seq = .idle := rfl
@[simp] theorem Datapath.start_reports (w : Half) : (Datapath.start w).reports = [] := rfl
@[simp] theorem Datapath.start_events (w : Half) : (Datapath.start w).events = [] := rfl
@[simp] theorem Datapath.start_page (w : Half) : (Datapath.start w).page = 0 := rfl

end Sys2Proof.Machine
end

