-- ==== Sys2Proof/Laws/Ops.lean ====
section
/-! SUPPORT. What each shared operation can do, said once: buffers, the parts of an operation, the port, the framers. -/

namespace Sys2Proof.Machine

/-! ## Computing values first -/

/-- `strictly` changes no value. -/
@[simp] theorem strictly_eq {n : Nat} {α : Type} (v : BitVec n) (k : BitVec n → α) : strictly v k = k v := by
  unfold strictly
  split
  · next h => congr 1; exact (BitVec.eq_of_toNat_eq (by simp [h])).symm
  · next m h =>
    congr 1
    have e : m + 1 = v.toNat := h.symm
    rw [e, BitVec.ofNat_toNat, BitVec.setWidth_eq]

/-! ## Buffers -/

theorem memRead_ok {buf : Bytes} {a n : Nat} (h : a + n ≤ buf.length) : memRead buf a n = .ok ((buf.drop a).take n) := by
  simp [memRead, h]

theorem memRead_past {buf : Bytes} {a n : Nat} (h : buf.length < a + n) : memRead buf a n = .error .readPastEnd := by
  simp [memRead, Nat.not_le.mpr h]

@[simp] theorem append_eq_append (buf v : Bytes) : append buf v = buf ++ v := by
  simp [append, memWrite]

theorem memWrite_length {buf v : Bytes} {a : Nat} (h : a ≤ buf.length) :
    (memWrite buf a v).length = max buf.length (a + v.length) := by
  simp [memWrite]; omega

theorem cells_wf_from (buf : Bytes) (k : Nat) : Memory.wf ((buf.zipIdx k).map fun p => (p.2, p.1)) = true := by
  induction buf generalizing k with
  | nil => rfl
  | cons b rest ih =>
    cases rest with
    | nil => rfl
    | cons c rest => simpa [Memory.wf] using ih (k + 1)

/-- The cells of a buffer are in canonical form, whatever operation wrote the buffer. -/
theorem cells_wf (buf : Bytes) : Memory.wf (Memory.cells buf) = true := cells_wf_from buf 0

theorem cells_memWrite_wf (buf v : Bytes) (a : Nat) : Memory.wf (Memory.cells (memWrite buf a v)) = true := cells_wf _

theorem cells_append_wf (buf v : Bytes) : Memory.wf (Memory.cells (append buf v)) = true := cells_wf _

theorem reset_buffers_wf :
    Memory.wf (Memory.cells State.reset.inBuf) = true ∧ Memory.wf (Memory.cells State.reset.outBuf) = true :=
  ⟨rfl, rfl⟩

theorem align4_ge (n : Nat) : n ≤ align4 n ∧ align4 n < n + 4 ∧ align4 n % 4 = 0 := by
  unfold align4; omega

theorem alignUp_ge (n : Nat) {m : Nat} (h : 0 < m) : n ≤ alignUp n m ∧ alignUp n m < n + m ∧ alignUp n m % m = 0 := by
  unfold alignUp
  have e := Nat.div_add_mod (n + m - 1) m
  have l := Nat.mod_lt (n + m - 1) h
  have c : (n + m - 1) / m * m = m * ((n + m - 1) / m) := Nat.mul_comm _ _
  refine ⟨by omega, by omega, Nat.mul_mod_left _ _⟩

/-! ## The parts of an operation -/

@[simp] theorem Run.andThen_ok {α β : Type} (a : α) (s : State) (k : α → State → Run β) :
    (Run.ok a s).andThen k = k a s := rfl

@[simp] theorem Run.andThen_raised {α β : Type} (e : Err) (s : State) (k : α → State → Run β) :
    (Run.raised e s : Run α).andThen k = .raised e s := rfl

/-- A sequence answers a value only if both parts do. -/
theorem Run.andThen_eq_ok {α β : Type} {r : Run α} {k : α → State → Run β} {b : β} {t : State}
    (h : r.andThen k = .ok b t) : ∃ a s, r = .ok a s ∧ k a s = .ok b t := by
  cases r with
  | ok a s => exact ⟨a, s, rfl, h⟩
  | raised e s => cases h

/-- A sequence raises what its first part raises, or what the second raises after it. -/
theorem Run.andThen_eq_raised {α β : Type} {r : Run α} {k : α → State → Run β} {e : Err} {t : State}
    (h : r.andThen k = .raised e t) : r = .raised e t ∨ ∃ a s, r = .ok a s ∧ k a s = .raised e t := by
  cases r with
  | ok a s => exact .inr ⟨a, s, rfl, h⟩
  | raised e' s => left; simpa using h

@[simp] theorem finish_ok (o : Output) (s : State) : finish (.ok o s) = (s.setSeq .done).returnOk o := rfl
@[simp] theorem finish_raised (e : Err) (s : State) : finish (.raised e s) = (s.setSeq .failed).returnError e := rfl
@[simp] theorem finishChannel_ok (o : Output) (s : State) : finishChannel (.ok o s) = s.closePort.returnOk o := rfl
@[simp] theorem finishChannel_raised (e : Err) (s : State) :
    finishChannel (.raised e s) = ((s.setSeq .failed).closePort).returnError e := rfl
@[simp] theorem onlyOut_eq (out : Bytes) (s : State) : onlyOut out s = .ok (Output.ofBytes out) s := rfl

/-! ## How an operation ended -/

/-! The records the statements write out are those the operations build. -/

@[simp] theorem onlyBytes_eq (out : Bytes) : onlyBytes out = Output.ofBytes out := rfl
@[simp] theorem okResult_eq (o : Output) (events : List Event) : okResult o events = Result.ofOutput o events := rfl
@[simp] theorem errResult_eq (e : Err) (events : List Event) : errResult e events = Result.ofErr e events := rfl
@[simp] theorem refusedResult_eq : refusedResult = Result.ofRefusal := rfl
@[simp] theorem leBytes_eq (w : Word) : leBytes w = put32 w := rfl
theorem framedMsg_eq (body : Bytes) : framedMsg body = Config.sox :: body ++ [Config.eox] := rfl
theorem startDp_eq (s : State) (q : SeqState) : s.startDp q = { s.begin.dp with seq := q } := rfl

theorem returned_returnOk (s : State) (o : Output) : (s.returnOk o).returned o := ⟨s.dp.events, rfl⟩

theorem returned_returnOk_iff (s : State) (o o' : Output) : (s.returnOk o).returned o' ↔ o' = o := by
  constructor
  · rintro ⟨events, h⟩
    cases o; cases o'
    simp_all [Result.ofOutput, okResult]
  · rintro rfl; exact returned_returnOk s o'

theorem not_returned_returnError (s : State) (e : Err) (o : Output) : ¬(s.returnError e).returned o := by
  rintro ⟨events, h⟩
  simp [okResult, Result.ofErr] at h

theorem not_returned_refuse (s : State) (o : Output) : ¬s.refuse.returned o := by
  rintro ⟨events, h⟩
  simp [okResult, Result.ofRefusal] at h

@[simp] theorem errKind_returnOk (s : State) (o : Output) : (s.returnOk o).errKind = none := rfl
@[simp] theorem errKind_returnError (s : State) (e : Err) : (s.returnError e).errKind = some e.kind := rfl
@[simp] theorem errKind_refuse (s : State) : s.refuse.errKind = none := rfl

/-- No status has one of the reserved codes (R310). -/
theorem Status.code_le (st : Status) : st.code.toNat ≤ 8 := by
  cases st with
  | ok => decide
  | failed k => cases k <;> decide
  | refused => decide

/-- Two statuses of one code are the same status (R310). -/
theorem Status.code_injective {a b : Status} (h : a.code = b.code) : a = b := by
  rcases a with _ | k | _ <;> rcases b with _ | l | _ <;> first | rfl | skip
  all_goals try cases k
  all_goals try cases l
  all_goals first | rfl | exact absurd h (by decide)

/-! ## The port -/

/-- Opening succeeds exactly on a channel the platform lists. -/
theorem openPort_eq (c : Byte) (s : State) :
    (scriptOf c s.channels = none ∧ openPort c s = .raised ⟨.deviceNotFound, .channel c⟩ s) ∨
      ∃ script, scriptOf c s.channels = some script ∧
        openPort c s = .ok () { s with openChan := some c, trace := s.trace ++ [.opened c] } := by
  unfold openPort
  cases h : scriptOf c s.channels with
  | none => exact .inl ⟨rfl, rfl⟩
  | some script => exact .inr ⟨script, rfl, rfl⟩

theorem closePort_open {s : State} {c : Byte} (h : s.openChan = some c) :
    s.closePort = { s with openChan := none, trace := s.trace ++ [.closed c] } := by
  simp [State.closePort, h]

theorem closePort_closed {s : State} (h : s.openChan = none) : s.closePort = s := by
  simp [State.closePort, h]

/-- A wait reads only the open channel's script, and only the scripts and the trace change. -/
theorem receive_open {s : State} {c : Byte} {script : List RecvItem} (t : TimeoutClass) (skip : Bytes → Bool)
    (ho : s.openChan = some c) (hs : scriptOf c s.channels = some script) :
    s.receive t skip = ((recvUntil skip .outside script).msg,
      { s with
        channels := setScript c (recvUntil skip .outside script).rest s.channels
        trace := s.trace ++ (recvUntil skip .outside script).seen.map (.recv t) }) := by
  simp [State.receive, ho, hs]

theorem scriptOf_setScript_self (c : Byte) (script : List RecvItem) (chans : List Channel)
    (h : scriptOf c chans ≠ none) : scriptOf c (setScript c script chans) = some script := by
  induction chans with
  | nil => exact absurd rfl h
  | cons ch rest ih =>
    by_cases hc : ch.chan = c
    · simp [setScript, scriptOf, hc]
    · simp only [setScript, scriptOf, hc, if_false] at h ⊢
      exact ih h

theorem scriptOf_setScript_other {c d : Byte} (script : List RecvItem) (chans : List Channel) (h : d ≠ c) :
    scriptOf d (setScript c script chans) = scriptOf d chans := by
  induction chans with
  | nil => rfl
  | cons ch rest ih =>
    by_cases hc : ch.chan = c
    · have hd : ¬ch.chan = d := fun e => h (e.symm.trans hc)
      have hd' : ¬c = d := fun e => h e.symm
      simp [setScript, scriptOf, hc, hd']
    · by_cases hd : ch.chan = d
      · simp [setScript, scriptOf, hd, h]
      · simp [setScript, scriptOf, hc, hd, ih]

theorem scriptOf_append_new {ch : Channel} {chans : List Channel} (h : scriptOf ch.chan chans = none) (d : Byte) :
    scriptOf d (chans ++ [ch]) = if d = ch.chan then some ch.script else scriptOf d chans := by
  induction chans with
  | nil => simp only [List.nil_append, scriptOf, eq_comm]
  | cons c rest ih =>
    by_cases hc : c.chan = ch.chan
    · simp [scriptOf, hc] at h
    · simp only [scriptOf, hc, if_false] at h
      by_cases hd : c.chan = d
      · have hne : ¬d = ch.chan := fun e => hc (hd.trans e)
        simp [scriptOf, hd, hne]
      · simp [scriptOf, hd, ih h]

/-- After an attach the channel named has the new script and every other channel its own. -/
theorem scriptOf_attachChannel (ch : Channel) (chans : List Channel) (d : Byte) :
    scriptOf d (attachChannel ch chans) = if d = ch.chan then some ch.script else scriptOf d chans := by
  unfold attachChannel
  cases h : scriptOf ch.chan chans with
  | none => exact scriptOf_append_new h d
  | some old =>
    by_cases hd : d = ch.chan
    · subst hd; simpa using scriptOf_setScript_self ch.chan ch.script chans (by simp [h])
    · simpa [hd] using scriptOf_setScript_other ch.script chans hd

/-! ## The bytes sent -/

/-- What of the trace is a byte sent. -/
theorem sent_append (s : State) (l : List PortAction) :
    ({ s with trace := s.trace ++ l } : State).sent = s.sent ++ ({ s with trace := l } : State).sent := by
  simp [State.sent, List.filterMap_append]

theorem sent_of_trace {s t : State} (h : s.trace = t.trace) : s.sent = t.sent := by
  simp [State.sent, h]

@[simp] theorem setSeq_sent (q : SeqState) (s : State) : (s.setSeq q).sent = s.sent := by
  simp [State.sent, List.filterMap_append]

@[simp] theorem sendMsg_sent (m : Bytes) (s : State) : (s.sendMsg m).sent = s.sent ++ m := by
  simp [State.sent, List.filterMap_append]

@[simp] theorem closePort_sent (s : State) : s.closePort.sent = s.sent := by
  unfold State.closePort
  split
  · rfl
  · simp [State.sent, List.filterMap_append]

theorem receive_sent (t : TimeoutClass) (skip : Bytes → Bool) (s : State) : (s.receive t skip).2.sent = s.sent := by
  unfold State.receive
  split
  · rfl
  · simp only [State.sent, List.filterMap_append]
    simp [List.filterMap_map]

/-! ## The receive framer -/

/-- A data byte inside a message is kept. -/
theorem rxByte_data {buf : Bytes} {x : Byte} (h : x.toNat < 0x80) :
    rxByte (.inside buf) x = .more (.inside (buf ++ [x])) := by
  have h1 : x ≠ Config.eox := by rintro rfl; simp [Config.eox] at h
  have h2 : x ≠ Config.sox := by rintro rfl; simp [Config.sox] at h
  simp [rxByte, h1, h2, Nat.not_le.mpr h, Nat.not_le.mpr (Nat.lt_trans h (by decide : 0x80 < 0xF8))]

/-- From inside a message, data bytes and the end byte complete it, whatever follows. -/
theorem recvUntil_body (skip : Bytes → Bool) (buf body : Bytes) (rest : List RecvItem)
    (h : ∀ b ∈ body, b.toNat < 0x80) :
    recvUntil skip (.inside buf) ((body ++ [Config.eox]).map .byte ++ rest) =
      let m := buf ++ body ++ [Config.eox]
      let r := recvUntil skip .outside rest
      let taken := (body ++ [Config.eox]).map RecvItem.byte
      if skip m then ⟨r.msg, r.rest, taken ++ r.seen⟩ else ⟨some m, rest, taken⟩ := by
  induction body generalizing buf with
  | nil => simp [recvUntil, rxByte]
  | cons b body ih =>
    have hb := h b (by simp)
    have hrest : ∀ x ∈ body, x.toNat < 0x80 := fun x hx => h x (by simp [hx])
    simp only [List.cons_append, List.map_cons, recvUntil, rxByte_data hb, ih _ hrest]
    simp only [List.append_assoc, List.cons_append, List.nil_append]
    cases skip (buf ++ b :: (body ++ [Config.eox])) <;> rfl

/-- A well-formed message at the front of a script is skipped or ends the wait. -/
theorem recvUntil_message (skip : Bytes → Bool) (body : Bytes) (rest : List RecvItem)
    (h : ∀ b ∈ body, b.toNat < 0x80) :
    recvUntil skip .outside ((framedMsg body).map .byte ++ rest) =
      let r := recvUntil skip .outside rest
      let taken := (framedMsg body).map RecvItem.byte
      if skip (framedMsg body) then ⟨r.msg, r.rest, taken ++ r.seen⟩ else ⟨some (framedMsg body), rest, taken⟩ := by
  simp only [framedMsg_eq, List.cons_append, List.map_cons, recvUntil, rxByte, if_true,
    recvUntil_body skip [Config.sox] body rest h]
  simp only [List.nil_append]
  cases skip (Config.sox :: (body ++ [Config.eox])) <;> rfl

/-! ## The framer of `IN` -/

/-- Data bytes and the end byte complete a message of `IN`. -/
theorem frameFrom_body (i : Nat) (buf body rest : Bytes) (f : Framed) (h : ∀ b ∈ body, b.toNat < 0x80) :
    frameFrom i .inside buf f (body ++ Config.eox :: rest) =
      frameFrom (i + body.length + 1) .outside (buf ++ body ++ [Config.eox]) (f.complete (buf ++ body ++ [Config.eox]))
        rest := by
  induction body generalizing i buf with
  | nil => simp [frameFrom]
  | cons b body ih =>
    have hb := h b (by simp)
    have h1 : b ≠ Config.eox := by rintro rfl; simp [Config.eox] at hb
    have hrest : ∀ x ∈ body, x.toNat < 0x80 := fun x hx => h x (by simp [hx])
    simp only [List.cons_append, frameFrom, h1, Nat.not_le.mpr hb, if_false, ih _ _ hrest]
    simp only [List.append_assoc, List.cons_append, List.length_cons]
    congr 1
    omega

/-- A well-formed message of `IN` is framed. -/
theorem frameFrom_message (i : Nat) (buf body rest : Bytes) (f : Framed) (h : ∀ b ∈ body, b.toNat < 0x80) :
    frameFrom i .outside buf f (framedMsg body ++ rest) =
      frameFrom (i + body.length + 2) .outside (framedMsg body) (f.complete (framedMsg body)) rest := by
  have e : framedMsg body ++ rest = Config.sox :: (body ++ Config.eox :: rest) := by simp [framedMsg_eq]
  rw [e, frameFrom]
  simp only [if_true]
  rw [frameFrom_body _ _ _ _ _ h]
  simp only [framedMsg_eq, List.singleton_append]
  congr 1
  omega

end Sys2Proof.Machine
end

