-- ==== Sys2Proof/Laws/Frames.lean ====
section
/-! SUPPORT. What the parts of an operation leave alone, one lemma per part: the parts of a conversion change the
datapath registers only (`Quiet`), the parts of a channel operation also the scripts, the port, `OUT` and the trace
(`Ported`). -/

namespace Sys2Proof.Machine

/-! ## The checksum register -/

/-- A round leaves eight bits in `CK` (spec/42_page_checksum.md R160). -/
theorem ckRound_bit8 (d : Bool) (ck : BitVec 9) : (ckRound d ck).getLsbD 8 = false := by
  simp [ckRound]

theorem ckByte_bit8 (order : Config.BitOrder) (b c : Byte) : (ckByte order b c).getLsbD 8 = false := by
  cases order <;> exact ckRound_bit8 _ _

theorem ckFrom_bit8 (order : Config.BitOrder) (bs : Bytes) (ck : BitVec 9) (h : ck.getLsbD 8 = false) :
    (ckFrom order ck bs).getLsbD 8 = false := by
  induction bs generalizing ck with
  | nil => exact h
  | cons b rest ih =>
    simp only [ckFrom, strictly_eq]
    exact ih _ (ckByte_bit8 _ _ _)

theorem ckAfter_bit8 (order : Config.BitOrder) (bs : Bytes) : (ckAfter order bs).getLsbD 8 = false :=
  ckFrom_bit8 order bs 0 rfl

/-! ## The framer -/

/-- The framer has warned exactly when it holds its one event. -/
def Framed.WellWarned (f : Framed) : Prop :=
  (f.warned = false ∧ f.events = []) ∨ (f.warned = true ∧ ∃ i, f.events = [.warnStray i])

theorem Framed.stray_wellWarned {f : Framed} (i : Nat) (h : f.WellWarned) : (f.stray i).WellWarned := by
  obtain ⟨hw, he⟩ | ⟨hw, j, he⟩ := h
  · exact .inr ⟨by simp [Framed.stray, hw], i, by simp [Framed.stray, hw, he]⟩
  · exact .inr ⟨by simp [Framed.stray, hw], j, by simp [Framed.stray, hw, he]⟩

theorem frameFrom_wellWarned (bs : Bytes) (i : Nat) (fs : FrameState) (buf : Bytes) (f : Framed)
    (h : f.WellWarned) : (frameFrom i fs buf f bs).framed.WellWarned := by
  induction bs generalizing i fs buf f with
  | nil => cases fs <;> exact h
  | cons b rest ih =>
    cases fs with
    | outside =>
      simp only [frameFrom]
      split
      · exact ih _ _ _ _ h
      · exact ih _ _ _ _ (Framed.stray_wellWarned i h)
    | inside =>
      simp only [frameFrom]
      split
      · exact ih _ _ _ _ h
      · split
        · exact h
        · exact ih _ _ _ _ h

theorem framed_events_length {f : Framed} (h : f.WellWarned) : f.events.length ≤ 1 := by
  obtain ⟨_, he⟩ | ⟨_, i, he⟩ := h <;> simp [he]

/-- `FRAME(IN)` changes only the framer's registers and the events, of which there is at most one. -/
theorem frameIn_spec (input : Bytes) (s : State) :
    ∃ r : FrameRun, r = frameFrom 0 .outside [] Framed.start input ∧ r.framed.events.length ≤ 1 ∧
      ((r.err = none ∧ frameIn input s = .ok r.framed.msgs (s.putFrame r)) ∨
        ∃ e, r.err = some e ∧ frameIn input s = .raised e (s.putFrame r)) := by
  refine ⟨_, rfl, framed_events_length (frameFrom_wellWarned _ _ _ _ _ (.inl ⟨rfl, rfl⟩)), ?_⟩
  unfold frameIn
  cases h : (frameFrom 0 .outside [] Framed.start input).err with
  | none => exact .inl ⟨rfl, by simp [h]⟩
  | some e => exact .inr ⟨e, rfl, by simp [h]⟩

/-! ## The parts of a conversion -/

/-- Between `s` and `t` only datapath registers changed, `SEQ`, the reports, the events and the page counter not among
them, and a checksum register of eight bits stayed one. -/
structure Quiet (s t : State) : Prop where
  outside : t = { s with dp := t.dp }
  seq : t.dp.seq = s.dp.seq
  reports : t.dp.reports = s.dp.reports
  events : t.dp.events = s.dp.events
  page : t.dp.page = s.dp.page
  ck : s.dp.ck.getLsbD 8 = false → t.dp.ck.getLsbD 8 = false

theorem Quiet.refl (s : State) : Quiet s s := ⟨rfl, rfl, rfl, rfl, rfl, id⟩

theorem Quiet.trans {s t u : State} (h : Quiet s t) (k : Quiet t u) : Quiet s u where
  outside := by rw [k.outside, h.outside]
  seq := k.seq.trans h.seq
  reports := k.reports.trans h.reports
  events := k.events.trans h.events
  page := k.page.trans h.page
  ck := fun c => k.ck (h.ck c)

theorem Quiet.putTki (i : Fin 13) (s : State) : Quiet s (s.putTki i) := ⟨rfl, rfl, rfl, rfl, rfl, id⟩
theorem Quiet.putWreg (w : Half) (s : State) : Quiet s (s.putWreg w) := ⟨rfl, rfl, rfl, rfl, rfl, id⟩
theorem Quiet.putImageSum (a : ImageSum) (s : State) : Quiet s (s.putImageSum a) := ⟨rfl, rfl, rfl, rfl, rfl, id⟩
theorem Quiet.putWofs (o : Nat) (s : State) : Quiet s (s.putWofs o) := ⟨rfl, rfl, rfl, rfl, rfl, id⟩
theorem Quiet.acceptPage (a : Addr) (s : State) : Quiet s (s.acceptPage a) := ⟨rfl, rfl, rfl, rfl, rfl, id⟩
theorem Quiet.putCk {ck : BitVec 9} (h : ck.getLsbD 8 = false) (s : State) : Quiet s (s.putCk ck) :=
  ⟨rfl, rfl, rfl, rfl, rfl, fun _ => h⟩
theorem Quiet.putPage (key : Vector Byte 13) (pidx : Half) (data : Bytes) (s : State) :
    Quiet s (s.putPage key pidx data) := (Quiet.putCk (ckAfter_bit8 _ data) s).trans (Quiet.putTki _ _)

/-- A part of an operation, started at `s`, is quiet whether it answers or raises. -/
def Run.Quiet {α : Type} (s : State) : Run α → Prop
  | .ok _ t => Machine.Quiet s t
  | .raised _ t => Machine.Quiet s t

theorem Run.Quiet.andThen {α β : Type} {s : State} {r : Run α} {k : α → State → Run β} (h : r.Quiet s)
    (hk : ∀ a t, (k a t).Quiet t) : (r.andThen k).Quiet s := by
  cases r with
  | raised e t => exact h
  | ok a t =>
    have h1 : Machine.Quiet s t := h
    have h2 := hk a t
    simp only [Run.andThen_ok]
    cases hr : k a t with
    | ok b u => rw [hr] at h2; exact h1.trans h2
    | raised e u => rw [hr] at h2; exact h1.trans h2

theorem onlyOut_quiet (out : Bytes) (s : State) : (onlyOut out s).Quiet s := Quiet.refl s

theorem expandRun_quiet (input : Bytes) (s : State) : (expandRun input s).Quiet s := by
  unfold expandRun; split <;> exact Quiet.refl s

theorem packRun_quiet (input : Bytes) (s : State) : (packRun input s).Quiet s := by
  unfold packRun; split <;> exact Quiet.refl s

theorem wcipherRun_quiet (seed : Half) (input : Bytes) (s : State) : (wcipherRun seed input s).Quiet s := by
  unfold wcipherRun
  split
  · exact Quiet.refl s
  · exact Quiet.putWreg _ s

theorem icksumRun_quiet (input : Bytes) (s : State) : (icksumRun input s).Quiet s := by
  unfold icksumRun
  split
  · exact Quiet.refl s
  · exact Quiet.putImageSum _ s

theorem dump2osRun_quiet (t1 : Vector Word 15) (t2 : Vector Word 14) (dump : Bytes) (s : State) :
    (dump2osRun t1 t2 dump s).Quiet s := by
  unfold dump2osRun
  dsimp only
  split
  · exact Quiet.refl s
  split
  · exact Quiet.refl s
  split
  · exact Quiet.refl s
  split
  · exact (Quiet.putWofs _ s).trans (Quiet.putImageSum _ _)
  · exact (Quiet.putWofs _ s).trans (Quiet.putImageSum _ _)

theorem os2dumpRun_quiet (t1 : Vector Word 15) (t2 : Vector Word 14) (image : Bytes) (s : State) :
    (os2dumpRun t1 t2 image s).Quiet s := by
  unfold os2dumpRun
  dsimp only
  split
  · exact Quiet.refl s
  · exact (Quiet.putImageSum _ s).trans (Quiet.putWofs _ _)

theorem pagedecRun_quiet (key : Vector Byte 13) (payload : Bytes) (s : State) : (pagedecRun key payload s).Quiet s := by
  unfold pagedecRun
  dsimp only
  split
  · exact Quiet.refl s
  split
  · exact (Quiet.putTki _ s).trans (Quiet.putCk (ckAfter_bit8 _ _) _)
  · exact (Quiet.putTki _ s).trans (Quiet.putCk (ckAfter_bit8 _ _) _)

theorem pageencRun_quiet (key : Vector Byte 13) (pidx : Half) (data : Bytes) (s : State) :
    (pageencRun key pidx data s).Quiet s := by
  unfold pageencRun
  split
  · exact Quiet.refl s
  · exact Quiet.putPage key pidx data s

theorem msgbuildRun_quiet (model cmd : Byte) (payload : Bytes) (s : State) :
    (msgbuildRun model cmd payload s).Quiet s := by
  unfold msgbuildRun
  split
  · exact Quiet.refl s
  split <;> exact Quiet.refl s

theorem checkFamily_quiet (fam : Family) (s : State) : (checkFamily fam s).Quiet s := by
  unfold checkFamily
  split
  · exact ⟨rfl, rfl, rfl, rfl, rfl, id⟩
  · split <;> exact Quiet.refl s
  · split <;> exact Quiet.refl s

theorem checkContiguous_quiet (a : Addr) (s : State) : (checkContiguous a s).Quiet s := by
  unfold checkContiguous
  split
  · exact Quiet.refl s
  · split <;> exact Quiet.refl s

theorem dumpPage_quiet (key : Vector Byte 13) (m : Bytes) (s : State) : (dumpPage key m s).Quiet s :=
  (checkFamily_quiet _ s).andThen fun _ t => (pagedecRun_quiet key _ t).andThen fun _ u =>
    (checkContiguous_quiet _ u).andThen fun _ v => Quiet.acceptPage _ v

theorem dumpMsgs_quiet (key : Vector Byte 13) (msgs : List Bytes) (s : State) : (dumpMsgs key msgs s).Quiet s := by
  induction msgs generalizing s with
  | nil => exact Quiet.refl s
  | cons m rest ih =>
    simp only [dumpMsgs]
    split
    · exact ih s
    · exact (dumpPage_quiet key m s).andThen fun _ t => (ih t).andThen fun _ u => Quiet.refl u

theorem dumpFinish_quiet (d : Bytes) (s : State) : (dumpFinish d s).Quiet s := by
  unfold dumpFinish
  split
  · exact Quiet.refl s
  · exact Quiet.refl s
  · exact Quiet.putWreg _ s

theorem pageMsgs_quiet (key : Vector Byte 13) (model : Byte) (n a : Nat) (c : Bytes) (s : State) :
    Quiet s (pageMsgs key model n a c s).2 := by
  induction n generalizing a c s with
  | zero => exact Quiet.refl s
  | succ n ih => exact (Quiet.putPage key _ _ s).trans (ih _ _ _)

theorem sectorMsgs_quiet (key : Vector Byte 13) (model : Byte) (n a : Nat) (d : Bytes) (s : State) :
    Quiet s (sectorMsgs key model n a d s).2 := by
  induction n generalizing a d s with
  | zero => exact Quiet.refl s
  | succ n ih => exact ((Quiet.putWreg _ s).trans (pageMsgs_quiet key model 16 a _ _)).trans (ih _ _ _)

theorem dump2syxRun_quiet (key : Vector Byte 13) (base : Addr) (model : Byte) (dump : Bytes) (s : State) :
    (dump2syxRun key base model dump s).Quiet s := by
  unfold dump2syxRun
  dsimp only
  split
  · exact Quiet.refl s
  split
  · exact Quiet.refl s
  split
  · exact Quiet.refl s
  split
  · exact Quiet.refl s
  · exact sectorMsgs_quiet _ _ _ _ _ s

/-! ## The parts of a channel operation -/

/-- Between `s` and `t` nothing of the host's changed: not the registers it writes, `IN`, the result or its acts; the
events stayed, and a checksum register of eight bits stayed one. -/
structure Ported (s t : State) : Prop where
  cfg : t.cfg = s.cfg
  par : t.par = s.par
  inBuf : t.inBuf = s.inBuf
  result : t.result = s.result
  inbox : t.inbox = s.inbox
  freeCount : t.freeCount = s.freeCount
  events : t.dp.events = s.dp.events
  ck : s.dp.ck.getLsbD 8 = false → t.dp.ck.getLsbD 8 = false

theorem Ported.refl (s : State) : Ported s s := ⟨rfl, rfl, rfl, rfl, rfl, rfl, rfl, id⟩

theorem Ported.trans {s t u : State} (h : Ported s t) (k : Ported t u) : Ported s u where
  cfg := k.cfg.trans h.cfg
  par := k.par.trans h.par
  inBuf := k.inBuf.trans h.inBuf
  result := k.result.trans h.result
  inbox := k.inbox.trans h.inbox
  freeCount := k.freeCount.trans h.freeCount
  events := k.events.trans h.events
  ck := fun c => k.ck (h.ck c)

theorem Quiet.ported {s t : State} (h : Quiet s t) : Ported s t where
  cfg := by rw [h.outside]
  par := by rw [h.outside]
  inBuf := by rw [h.outside]
  result := by rw [h.outside]
  inbox := by rw [h.outside]
  freeCount := by rw [h.outside]
  events := h.events
  ck := h.ck

theorem Ported.setSeq (q : SeqState) (s : State) : Ported s (s.setSeq q) := ⟨rfl, rfl, rfl, rfl, rfl, rfl, rfl, id⟩
theorem Ported.sendMsg (m : Bytes) (s : State) : Ported s (s.sendMsg m) := ⟨rfl, rfl, rfl, rfl, rfl, rfl, rfl, id⟩
theorem Ported.addReport (r : Report) (s : State) : Ported s (s.addReport r) := ⟨rfl, rfl, rfl, rfl, rfl, rfl, rfl, id⟩
theorem Ported.addReply (m : Bytes) (s : State) : Ported s (s.addReply m) := ⟨rfl, rfl, rfl, rfl, rfl, rfl, rfl, id⟩

theorem Ported.closePort (s : State) : Ported s s.closePort := by
  unfold State.closePort
  split
  · exact Ported.refl s
  · exact ⟨rfl, rfl, rfl, rfl, rfl, rfl, rfl, id⟩

theorem Ported.receive (t : TimeoutClass) (skip : Bytes → Bool) (s : State) : Ported s (s.receive t skip).2 := by
  unfold State.receive
  split
  · exact Ported.refl s
  · exact ⟨rfl, rfl, rfl, rfl, rfl, rfl, rfl, id⟩

theorem Ported.putTrigger (key : Vector Byte 13) (m : Bytes) (s : State) : Ported s (s.putTrigger key m) := by
  unfold State.putTrigger
  split
  · exact (Quiet.putTki _ s).ported
  · exact Ported.refl s

theorem Ported.putAck (key : Vector Byte 13) (payload : Bytes) (s : State) : Ported s (s.putAck key payload) := by
  unfold State.putAck
  split
  · exact (Quiet.putTki _ s).ported
  · exact Ported.refl s

/-- A part of a channel operation, started at `s`, keeps what is the host's whether it answers or raises. -/
def Run.Ported {α : Type} (s : State) : Run α → Prop
  | .ok _ t => Machine.Ported s t
  | .raised _ t => Machine.Ported s t

theorem Run.Quiet.ported {α : Type} {s : State} {r : Run α} (h : r.Quiet s) : r.Ported s := by
  cases r with
  | ok a t => exact Machine.Quiet.ported h
  | raised e t => exact Machine.Quiet.ported h

theorem Run.Ported.after {α : Type} {s t : State} {r : Run α} (h : Machine.Ported s t) (k : r.Ported t) :
    r.Ported s := by
  cases r with
  | ok a u => exact h.trans k
  | raised e u => exact h.trans k

theorem Run.Ported.andThen {α β : Type} {s : State} {r : Run α} {k : α → State → Run β} (h : r.Ported s)
    (hk : ∀ a t, (k a t).Ported t) : (r.andThen k).Ported s := by
  cases r with
  | raised e t => exact h
  | ok a t => exact Run.Ported.after h (hk a t)

theorem openPort_ported (c : Byte) (s : State) : (openPort c s).Ported s := by
  unfold openPort
  split
  · exact Ported.refl s
  · exact ⟨rfl, rfl, rfl, rfl, rfl, rfl, rfl, id⟩

theorem doneWith_ported (o : Output) (s : State) : (doneWith o s).Ported s := Ported.setSeq .done s

theorem probeRun_ported (req : Bytes) (c : Byte) (s : State) : (probeRun req c s).Ported s := by
  refine (openPort_ported c s).andThen fun _ t => ?_
  have h := ((Ported.setSeq .probeWait t).trans (Ported.sendMsg req _)).trans
    (Ported.receive .short (probeSkips req) _)
  split
  · next heq => rw [heq] at h; exact h
  · next heq => rw [heq] at h; exact h

theorem detectFrom_ported (req cands : Bytes) (s : State) : (detectFrom req cands s).Ported s := by
  induction cands generalizing s with
  | nil => exact Ported.refl s
  | cons c rest ih =>
    have h := probeRun_ported req c s
    simp only [detectFrom]
    split
    · next heq => rw [heq] at h; exact Run.Ported.after h (doneWith_ported _ _)
    · next heq => rw [heq] at h; exact Run.Ported.after (h.trans (Ported.closePort _)) (ih _)

theorem acceptAck_ported (key : Vector Byte 13) (m : Bytes) (s : State) : (acceptAck key m s).Ported s := by
  unfold acceptAck
  dsimp only
  split
  · exact Ported.refl s
  split
  · exact Ported.refl s
  split
  · exact Ported.putAck key _ s
  · exact (Ported.putAck key _ s).trans (Ported.setSeq .upSend _)

theorem waitAck_ported (key : Vector Byte 13) (t : TimeoutClass) (s : State) : (waitAck key t s).Ported s := by
  have h := Ported.receive t ackSkips s
  unfold waitAck
  split
  · next heq => rw [heq] at h; exact h
  · next heq => rw [heq] at h; exact Run.Ported.after h (acceptAck_ported key _ _)

theorem uploadFrom_ported (key : Vector Byte 13) (first : Bool) (msgs : List Bytes) (s : State) :
    (uploadFrom key first msgs s).Ported s := by
  induction msgs generalizing first s with
  | nil => exact Ported.refl s
  | cons m rest ih =>
    have h := ((Ported.setSeq .upSend s).trans (Ported.sendMsg m _)).trans (Ported.putTrigger key m _)
    simp only [uploadFrom]
    split
    · refine Run.Ported.after (h.trans (Ported.setSeq .upWaitAck _)) ?_
      exact (waitAck_ported key _ _).andThen fun r t => Run.Ported.after (Ported.addReport r t) (ih _ _)
    · exact Run.Ported.after h (ih _ _)

theorem acceptReply_ported (key : Vector Byte 13) (pidx : Half) (m : Bytes) (s : State) :
    (acceptReply key pidx m s).Ported s := by
  unfold acceptReply
  dsimp only
  split
  · exact Ported.refl s
  split
  · exact Ported.refl s
  · refine (pagedecRun_quiet key _ s).ported.andThen fun p t => ?_
    split <;> exact Ported.refl t

theorem waitPage_ported (key : Vector Byte 13) (pidx : Half) (t : TimeoutClass) (s : State) :
    (waitPage key pidx t s).Ported s := by
  have h := Ported.receive t pageSkips s
  unfold waitPage
  split
  · next heq => rw [heq] at h; exact h
  · next heq => rw [heq] at h; exact Run.Ported.after h (acceptReply_ported key _ _ _)

theorem retrieveFrom_ported (key : Vector Byte 13) (rr : ReadRequest) (model : Byte) (start : Addr) (n : Nat)
    (s : State) : (retrieveFrom key rr model start n s).Ported s := by
  induction n generalizing s with
  | zero => exact Ported.refl s
  | succ n ih =>
    simp only [retrieveFrom]
    have h := ((Ported.setSeq .rtSend s).trans (Ported.sendMsg (readRequestMsg rr model (retrievePidx start s)) _)).trans
      (Ported.setSeq .rtWait _)
    exact Run.Ported.after h ((waitPage_ported key _ _ _).andThen fun r t =>
      Run.Ported.after (Ported.addReply r t) (ih _))

theorem retrieveRun_ported (key : Vector Byte 13) (rr : ReadRequest) (c : Byte) (start count : Addr) (model : Byte)
    (s : State) : (retrieveRun key rr c start count model s).Ported s := by
  unfold retrieveRun
  dsimp only
  split
  · exact Ported.refl s
  split
  · exact Ported.refl s
  split
  · exact Ported.refl s
  · exact (openPort_ported c s).andThen fun _ t => (retrieveFrom_ported key rr model start _ t).andThen fun _ u =>
      doneWith_ported _ u

theorem displayRun_ported (key : Vector Byte 13) (c model : Byte) (label : Label) (s : State) :
    (displayRun key c model label s).Ported s := by
  unfold displayRun
  split
  · exact Ported.refl s
  · refine (openPort_ported c s).andThen fun _ t => Run.Ported.after ?_ (doneWith_ported _ _)
    exact (((Ported.setSeq .dispSend t).trans (Quiet.putCk (ckAfter_bit8 _ _) _).ported).trans
      (Quiet.putTki _ _).ported).trans (Ported.sendMsg _ _)

end Sys2Proof.Machine
end

