-- ==== Sys2Proof/Laws/PerInstr.lean ====
section
/-! SUPPORT. A law per instruction: the bytes of an instruction are read as a wire message exactly when the instruction
is one of the four message rows, so the two encodings never mix. -/

namespace Sys2Proof.Laws

/-- The instruction is one of the four wire messages (spec/30_encoding.md R93). -/
def isWireMessage : Instr → Bool
  | .expand => false
  | .pack => false
  | .tcipher => false
  | .wcipher _ => false
  | .ckupd _ _ => false
  | .ckpage => false
  | .wordcode _ _ => false
  | .icksum => false
  | .dump2os => false
  | .os2dump => false
  | .frame => false
  | .pagedec => false
  | .pageenc _ => false
  | .msgbuild _ _ => false
  | .syx2dump => false
  | .dump2syx _ _ => false
  | .syx2os => false
  | .os2syx _ _ => false
  | .probe _ => false
  | .detect _ => false
  | .upload _ => false
  | .retrieve _ _ _ _ => false
  | .display _ _ _ => false
  | .reserved00 => false
  | .reserved18 _ => false
  | .reserved20 _ => false
  | .reserved40 _ => false
  | .reserved80 _ => false
  | .msgProbe _ _ => true
  | .msgPageWrite _ _ => true
  | .msgAck _ _ => true
  | .msgPageRead _ _ => true

/-- `encode` writes a message row for a wire message and a descriptor for everything else. -/
def EncodingKind.Statement (i : Instr) : Prop := isMessageRow (encode i) = isWireMessage i

/-- A sequence that does not begin with the start byte is no message row. -/
theorem isMessageRow_of_head {b : Byte} {rest : Bytes} (h : (b == Config.sox) = false) :
    isMessageRow (b :: rest) = false := by
  unfold isMessageRow
  split
  · next heq => injection heq with h1 _; subst h1; simp only [h, Bool.false_and]
  · rfl

/-- A message with one of the four commands is a message row. -/
theorem isMessageRow_messageBytes (model cmd : Byte) (payload : Bytes)
    (h : [Config.cmdProbe, Config.cmdWrite, Config.cmdAck, Config.cmdRead].contains cmd = true) :
    isMessageRow (messageBytes model cmd payload) = true := by
  simp only [messageBytes, Config.manuf, List.cons_append, List.nil_append, isMessageRow, h, beq_self_eq_true,
    Bool.and_self]

theorem EncodingKind.expand : EncodingKind.Statement .expand := isMessageRow_of_head rfl
theorem EncodingKind.pack : EncodingKind.Statement .pack := isMessageRow_of_head rfl
theorem EncodingKind.tcipher : EncodingKind.Statement .tcipher := isMessageRow_of_head rfl
theorem EncodingKind.wcipher (seed : Half) : EncodingKind.Statement (.wcipher seed) := isMessageRow_of_head rfl
theorem EncodingKind.ckupd (bytein ckin : Byte) : EncodingKind.Statement (.ckupd bytein ckin) :=
  isMessageRow_of_head rfl
theorem EncodingKind.ckpage : EncodingKind.Statement .ckpage := isMessageRow_of_head rfl
theorem EncodingKind.wordcode (word woff : Word) : EncodingKind.Statement (.wordcode word woff) :=
  isMessageRow_of_head rfl
theorem EncodingKind.icksum : EncodingKind.Statement .icksum := isMessageRow_of_head rfl
theorem EncodingKind.dump2os : EncodingKind.Statement .dump2os := isMessageRow_of_head rfl
theorem EncodingKind.os2dump : EncodingKind.Statement .os2dump := isMessageRow_of_head rfl
theorem EncodingKind.frame : EncodingKind.Statement .frame := isMessageRow_of_head rfl
theorem EncodingKind.pagedec : EncodingKind.Statement .pagedec := isMessageRow_of_head rfl
theorem EncodingKind.pageenc (pidx : Half) : EncodingKind.Statement (.pageenc pidx) := isMessageRow_of_head rfl
theorem EncodingKind.msgbuild (model cmd : Byte) : EncodingKind.Statement (.msgbuild model cmd) :=
  isMessageRow_of_head rfl
theorem EncodingKind.syx2dump : EncodingKind.Statement .syx2dump := isMessageRow_of_head rfl
theorem EncodingKind.dump2syx (base : Addr) (model : Byte) : EncodingKind.Statement (.dump2syx base model) :=
  isMessageRow_of_head rfl
theorem EncodingKind.syx2os : EncodingKind.Statement .syx2os := isMessageRow_of_head rfl
theorem EncodingKind.os2syx (base : Addr) (model : Byte) : EncodingKind.Statement (.os2syx base model) :=
  isMessageRow_of_head rfl
theorem EncodingKind.probe (chan : Byte) : EncodingKind.Statement (.probe chan) := isMessageRow_of_head rfl
theorem EncodingKind.detect (cands : Bytes) : EncodingKind.Statement (.detect cands) := isMessageRow_of_head rfl
theorem EncodingKind.upload (chan : Byte) : EncodingKind.Statement (.upload chan) := isMessageRow_of_head rfl
theorem EncodingKind.retrieve (chan : Byte) (start count : Addr) (model : Byte) :
    EncodingKind.Statement (.retrieve chan start count model) :=
  isMessageRow_of_head rfl
theorem EncodingKind.display (chan model : Byte) (label : Label) : EncodingKind.Statement (.display chan model label) :=
  isMessageRow_of_head rfl
theorem EncodingKind.reserved00 : EncodingKind.Statement .reserved00 := isMessageRow_of_head rfl
theorem EncodingKind.reserved18 (low : BitVec 3) : EncodingKind.Statement (.reserved18 low) :=
  rfl
theorem EncodingKind.reserved20 (low : BitVec 5) : EncodingKind.Statement (.reserved20 low) :=
  rfl
theorem EncodingKind.reserved40 (low : BitVec 6) : EncodingKind.Statement (.reserved40 low) :=
  rfl
theorem EncodingKind.reserved80 (low : BitVec 7) : EncodingKind.Statement (.reserved80 low) :=
  rfl
theorem EncodingKind.msgProbe (model : Byte) (payload : Bytes) : EncodingKind.Statement (.msgProbe model payload) :=
  isMessageRow_messageBytes model _ payload rfl
theorem EncodingKind.msgPageWrite (model : Byte) (payload : Bytes) :
    EncodingKind.Statement (.msgPageWrite model payload) :=
  isMessageRow_messageBytes model _ payload rfl
theorem EncodingKind.msgAck (model : Byte) (payload : Bytes) : EncodingKind.Statement (.msgAck model payload) :=
  isMessageRow_messageBytes model _ payload rfl
theorem EncodingKind.msgPageRead (model : Byte) (payload : Bytes) :
    EncodingKind.Statement (.msgPageRead model payload) :=
  isMessageRow_messageBytes model _ payload rfl

end Sys2Proof.Laws
end

