-- ==== Sys2Proof/Tests/Slice0.lean ====
section
/-! SUPPORT. The model's own tests: ill-formed terms that WellFormed refuses, descriptors and messages written out by
hand from spec/30_encoding.md, vectors of spec/95_test_vectors.md (each test names its vector), and for every statement
with hypotheses a state and operands that meet them. -/

namespace Sys2Proof.Tests

open Sys2Proof.Machine

/-! ## States for the tests -/

/-- The key TK1 of spec/95_test_vectors.md §0. -/
def tk1 : Vector Byte 13 := #v[1, 2, 3, 4, 5, 6, 7, 8, 9, 10, 11, 12, 13]
/-- The key TK0. -/
def tk0 : Vector Byte 13 := Vector.replicate 13 0
/-- The table TT1. -/
def tt1 : Vector Word 15 := Vector.ofFn fun i => BitVec.ofNat 32 ((i.val + 1) * 2 ^ 24)
/-- The table TT2. -/
def tt2 : Vector Word 14 := Vector.ofFn fun i => BitVec.ofNat 32 (i.val + 1)
/-- The probe request PR1. -/
def pr1 : Bytes := [0xF0, 0x00, 0x20, 0x32, 0x00, 0x01, 0xF7]
/-- The read request RR1 for page index `0x0020` under TK1, the payload of the message `Q`. -/
def rr1 : ReadRequest := ⟨[⟨0x15, 0x0020, [0x01, 0x22, 0x03, 0x04, 0x05, 0x06, 0x07, 0x00]⟩], []⟩

/-- A configured block with this `IN` and these channels. -/
def block (input : Bytes) (chans : List Channel) : State :=
  { State.reset with
    cfg := { ConfigRegs.reset with
      transportKey := some tk1, osT1 := some tt1, osT2 := some tt2, probeRequest := some pr1, readRequest := some rr1 }
    inBuf := input
    channels := chans }

/-- The same under the key TK0. -/
def block0 (input : Bytes) (chans : List Channel) : State :=
  let s := block input chans
  { s with cfg := { s.cfg with transportKey := some tk0 } }

/-- Channel `0x00` with a script of bytes. -/
def port (script : Bytes) : List Channel := [⟨0x00, script.map .byte⟩]

/-- The record of the last operation. -/
def resultOf (o : Host.Outcome State Fault Refusal) : Option Result :=
  match o with
  | .next t => t.result
  | .fault _ => none
  | .refused _ => none

/-- `OUT` of the operation, when it ended OK. -/
def outOf (o : Host.Outcome State Fault Refusal) : Option Bytes := (resultOf o).bind (·.out)
/-- The status of the operation. -/
def statusOf (o : Host.Outcome State Fault Refusal) : Option Status := (resultOf o).map (·.status)
/-- The bytes sent up to now. -/
def sentOf (o : Host.Outcome State Fault Refusal) : Option Bytes :=
  match o with
  | .next t => some t.sent
  | .fault _ => none
  | .refused _ => none
/-- `SEQ` now. -/
def seqOf (o : Host.Outcome State Fault Refusal) : Option SeqState :=
  match o with
  | .next t => some t.dp.seq
  | .fault _ => none
  | .refused _ => none

/-! ## WellFormed refuses -/

theorem test_wf_detect_too_long : (Instr.detect (List.replicate 256 0)).wf = false := by decide +kernel
theorem test_wf_probe_model : (Instr.msgProbe 0x80 []).wf = false := by decide
theorem test_wf_page_write_model : (Instr.msgPageWrite 0xF0 []).wf = false := by decide
theorem test_wf_page_write_payload : (Instr.msgPageWrite 0x15 [0x7F, 0xF7]).wf = false := by decide
theorem test_wf_ack_payload : (Instr.msgAck 0x15 [0x80]).wf = false := by decide
theorem test_wf_page_read_payload : (Instr.msgPageRead 0x15 [0x00, 0xFF]).wf = false := by decide

/-! ## Every constructor's decoding, on bytes written out from R110, R111 and R80 to R89 -/

theorem test_decode_transcoder :
    decode [0x01] = .ok .expand ∧ decode [0x02] = .ok .pack := by decide
theorem test_decode_cipher :
    decode [0x03] = .ok .tcipher ∧ decode [0x04, 0x00, 0x20] = .ok (.wcipher 0x2000) := by decide
theorem test_decode_checksum :
    decode [0x05, 0x34, 0xEC] = .ok (.ckupd 0x34 0xEC) ∧ decode [0x06] = .ok .ckpage := by decide
theorem test_decode_image :
    decode [0x07, 0x78, 0x56, 0x34, 0x12, 0xD2, 0x00, 0x00, 0x00] = .ok (.wordcode 0x12345678 210) ∧
      decode [0x08] = .ok .icksum ∧ decode [0x09] = .ok .dump2os ∧ decode [0x0A] = .ok .os2dump := by decide
theorem test_decode_pages :
    decode [0x0B] = .ok .frame ∧ decode [0x0C] = .ok .pagedec ∧ decode [0x0D, 0x21, 0x00] = .ok (.pageenc 0x0021) ∧
      decode [0x0E, 0x15, 0x34] = .ok (.msgbuild 0x15 0x34) := by decide
theorem test_decode_conversions :
    decode [0x0F] = .ok .syx2dump ∧ decode [0x10, 0x00, 0x20, 0x00, 0x15] = .ok (.dump2syx 0x2000 0x15) ∧
      decode [0x11] = .ok .syx2os ∧ decode [0x12, 0x00, 0x10, 0x01, 0x15] = .ok (.os2syx 0x011000 0x15) := by decide
theorem test_decode_channel :
    decode [0x13, 0x07] = .ok (.probe 0x07) ∧ decode [0x14, 0x02, 0x00, 0x01] = .ok (.detect [0x00, 0x01]) ∧
      decode [0x15, 0x00] = .ok (.upload 0x00) ∧
      decode [0x16, 0x00, 0x00, 0x20, 0x00, 0x00, 0x01, 0x00, 0x15] = .ok (.retrieve 0x00 0x2000 0x100 0x15) ∧
      decode [0x17, 0x00, 0x15, 0x54, 0x45, 0x53, 0x54] = .ok (.display 0x00 0x15 ⟨0x54, 0x45, 0x53, 0x54⟩) := by decide
theorem test_decode_reserved :
    decode [0x00] = .ok .reserved00 ∧ decode [0x1D] = .ok (.reserved18 5) ∧ decode [0x31] = .ok (.reserved20 0x11) ∧
      decode [0x7F] = .ok (.reserved40 0x3F) ∧ decode [0x80] = .ok (.reserved80 0) := by decide
theorem test_decode_messages :
    decode [0xF0, 0x00, 0x20, 0x32, 0x15, 0x01, 0xF7] = .ok (.msgProbe 0x15 []) ∧
      decode [0xF0, 0x00, 0x20, 0x32, 0x15, 0x34, 0x01, 0xF7] = .ok (.msgPageWrite 0x15 [0x01]) ∧
      decode [0xF0, 0x00, 0x20, 0x32, 0x15, 0x35, 0x01, 0x2D, 0x03, 0x04, 0x05, 0x06, 0x07, 0x00, 0xF7] =
        .ok (.msgAck 0x15 [0x01, 0x2D, 0x03, 0x04, 0x05, 0x06, 0x07, 0x00]) ∧
      decode [0xF0, 0x00, 0x20, 0x32, 0x15, 0x74, 0x7F, 0xF7] = .ok (.msgPageRead 0x15 [0x7F]) := by decide
theorem test_decode_short : decode [0x10, 0x00, 0x20, 0x00] = .error (.shortDescriptor 0x10) := by decide
theorem test_decode_empty : decode [] = .error .emptyDescriptor := by decide
theorem test_table_word :
    decodeTableWord 40 0x1500200010 = some (.dump2syx 0x2000 0x15) ∧
      decodeTableWord 48 0x3415322000F0 = some (.msgPageWrite 0x15 []) := by decide +kernel

/-! ## A step -/

theorem test_step_serves_configuration :
    (match step { State.reset with inbox := [.writeConfig (.addrLimit 5)] } with
      | .next t => t.cfg.addrLimit == 5 && t.inbox == []
      | .fault _ => false
      | .refused _ => false) = true := by decide
theorem test_step_runs_word : outOf (step ((block [0x12, 0x34] []).withFetchWord 8 0x06)) = some [0xC4] := by decide +kernel
theorem test_step_read_result :
    (match step { State.reset with dp := { Datapath.reset with seq := .failed }, inbox := [.readResult] } with
      | .next t => t.dp.seq == .idle
      | .fault _ => false
      | .refused _ => false) = true := by decide

/-- R56: the size bias is the default base and the header. -/
theorem test_size_bias : Config.osSizeBias = Config.defaultBase + Config.osHdrLen := rfl
/-- R310. -/
theorem test_status_code : Status.refused.code = 8 ∧ (Status.failed .unexpectedResponse).code = 6 := by decide
/-- The other bit order (R163): bit 7 of `CKUPD`'s result is the complement of the last bit in, bit 0 of the byte. -/
theorem test_ckupd_msb_first :
    let s := { block [] [] with cfg := { (block [] []).cfg with ckBitOrder := .msbFirst } }
    (outOf (exec (.ckupd 0x01 0x00) s)).map (·.map (·.getLsbD 7)) = some [false] := by decide +kernel
/-- R28 and R314: a conversion ends at `DONE` or `FAILED`. -/
theorem test_conversion_seq :
    seqOf (exec .expand (block [] [])) = some .done ∧ seqOf (exec .expand (block [0] [])) = some .failed := by decide

/-! ## Vectors of spec/95_test_vectors.md -/

/-- BT2. -/
theorem test_expand : outOf (exec .expand (block [1, 2, 3, 4, 5, 6, 7, 0x40] [])) =
    some [0x81, 2, 3, 4, 5, 6, 7] := by decide
/-- BT7. -/
theorem test_expand_length : statusOf (exec .expand (block [0, 0, 0, 0, 0, 0, 0] [])) =
    some (.failed .formatError) := by decide
/-- BT8. -/
theorem test_pack : outOf (exec .pack (block [0x80, 1, 2, 3, 4, 5, 0xFF] [])) =
    some [0x00, 1, 2, 3, 4, 5, 0x7F, 0x41] := by decide
/-- BT11. -/
theorem test_pack_length : statusOf (exec .pack (block [1, 2, 3] [])) = some (.failed .formatError) := by decide
/-- TC1. -/
theorem test_tcipher : outOf (exec .tcipher (block (List.replicate 14 0) [])) =
    some [1, 2, 3, 4, 5, 6, 7, 8, 9, 10, 11, 12, 13, 1] := by decide
/-- WC1. -/
theorem test_wcipher : outOf (exec (.wcipher 0) (block (List.replicate 8 0) [])) =
    some [0x2D, 0x2A, 0x14, 0x55, 0x8A, 0x2A, 0x45, 0x15] := by decide
/-- WC9. -/
theorem test_wcipher_seed : outOf (exec (.wcipher 0x2000) (block [1, 2, 3, 4] [])) =
    some [0x01, 0x12, 0x03, 0x0C] := by decide
/-- CK7. -/
theorem test_ckupd : outOf (exec (.ckupd 0x34 0xEC) (block [] [])) = some [0xC4] := by decide +kernel
/-- CK16. -/
theorem test_ckpage : outOf (exec .ckpage (block [0x54, 0x45, 0x53, 0x54] [])) = some [0xA2] := by decide +kernel
/-- OS2. -/
theorem test_wordcode : outOf (exec (.wordcode 0x12345678 210) (block [] [])) =
    some [0x79, 0x56, 0x34, 0x13] := by decide +kernel
/-- OS6. -/
theorem test_icksum : outOf (exec .icksum (block [1, 2, 3, 4, 5, 0xFF, 0xFF, 0xFF] [])) =
    some [0xF9, 0xCE, 0x8E, 0x14] := by decide +kernel
/-- OS7. -/
theorem test_os2dump : (outOf (exec .os2dump (block [1, 2, 3, 4, 5] []))).map (·.take 17) =
    some [4, 0, 0, 1, 0xFB, 0xCE, 0x8E, 0x16, 2, 2, 3, 7, 1, 0xFF, 0xFF, 0xFB, 0xFF] := by decide +kernel
/-- W8a. -/
theorem test_os2dump_empty : statusOf (exec .os2dump (block [] [])) = some (.failed .sizeOutOfRange) := by decide
/-- OS8, on the part of OS7's output that is read. -/
theorem test_dump2os : outOf (exec .dump2os
    (block [4, 0, 0, 1, 0xFB, 0xCE, 0x8E, 0x16, 2, 2, 3, 7, 1, 0xFF, 0xFF, 0xFB, 0xFF] [])) =
    some [1, 2, 3, 4, 5] := by decide
/-- OS12. -/
theorem test_dump2os_checksum : statusOf (exec .dump2os
    (block [4, 0, 0, 1, 0xFB, 0xCE, 0x8E, 0x16, 2, 2, 3, 7, 0, 0xFF, 0xFF, 0xFB, 0xFF] [])) =
    some (.failed .checksumMismatch) := by decide
/-- FR1. -/
theorem test_frame : resultOf (exec .frame (block [0x55, 0xF0, 0x00, 0xF7, 0xAA] [])) =
    some (Result.ofOutput (Output.ofBytes [0xF0, 0x00, 0xF7]) [.warnStray 0]) := by decide
/-- FR5. -/
theorem test_frame_realtime : resultOf (exec .frame (block [0xF0, 0x00, 0xF8, 0xF7] [])) =
    some (Result.ofErr ⟨.formatError, .index 2⟩ []) := by decide
/-- PG7. -/
theorem test_msgbuild : outOf (exec (.msgbuild 0x15 0x01) (block [] [])) =
    some [0xF0, 0x00, 0x20, 0x32, 0x15, 0x01, 0xF7] := by decide
/-- A payload byte above `0x7F` (R219). -/
theorem test_msgbuild_payload : statusOf (exec (.msgbuild 0x15 0x34) (block (List.replicate 8 0x80) [])) =
    some (.failed .formatError) := by decide

/-- The first 16 bytes of PG2. -/
theorem test_pageenc : (outOf (exec (.pageenc 0x0020) (block (List.replicate 256 0) []))).map (·.take 16) =
    some [0x01, 0x22, 0x7E, 4, 5, 6, 7, 0x10, 8, 9, 0x0A, 0x0B, 0x0C, 0x0D, 0x01, 0x00] := by decide +kernel
/-- PG1 decoded again, under TK0. -/
theorem test_pagedec : outOf (exec .pagedec
    (block0 ([0x00, 0x20, 0x7D, 0, 0, 0, 0, 0x10] ++ List.replicate 288 0) [])) =
    some ([0x00, 0x20, 0xFD] ++ List.replicate 256 0) := by decide +kernel
/-- PG5. -/
theorem test_pagedec_length : statusOf (exec .pagedec (block (List.replicate 288 0) [])) =
    some (.failed .formatError) := by decide +kernel

/-- The message of page index `0x0022` with zero data under TK0: R80 around the payload of PG1's form (its checksum
`0xFD` as `7D` with flag bit 4). -/
def zeroPage (cmd pidx : Byte) : Bytes :=
  [0xF0, 0x00, 0x20, 0x32, 0x15, cmd, 0x00, pidx, 0x7D, 0, 0, 0, 0, 0x10] ++ List.replicate 288 0 ++ [0xF7]

/-- SX4. -/
theorem test_syx2dump : resultOf (exec .syx2dump (block0 (zeroPage 0x74 0x22) [])) =
    some (Result.ofOutput ⟨List.replicate 256 0, some 0x2200, none, none⟩ []) := by decide +kernel
/-- SX1. -/
theorem test_syx2dump_gap : statusOf (exec .syx2dump (block0 (zeroPage 0x34 0x21 ++ zeroPage 0x34 0x23) [])) =
    some (.failed .addressDiscontinuity) := by decide +kernel
/-- DS8. -/
theorem test_dump2syx_empty : outOf (exec (.dump2syx 0x2000 0x15) (block [] [])) = some [] := by decide
/-- DS3. -/
theorem test_dump2syx_floor : statusOf (exec (.dump2syx 0x1000 0x15) (block [0] [])) =
    some (.failed .formatError) := by decide +kernel
/-- `SYX2OS` of a stream without a firmware page, as SX5 (R113, R240). -/
theorem test_syx2os_no_page : statusOf (exec .syx2os (block [0xF0, 0x00, 0x20, 0x32, 0x15, 0x01, 0xF7] [])) =
    some (.failed .formatError) := by decide
/-- `OS2SYX` of the empty image, as W8a (R113, R241). -/
theorem test_os2syx_empty : statusOf (exec (.os2syx 0x2000 0x15) (block [] [])) =
    some (.failed .sizeOutOfRange) := by decide

/-- PB1. -/
theorem test_probe : (resultOf (exec (.probe 0) (block [] (port (pr1 ++ [0xF0, 0x00, 0x20, 0x32, 0x15, 0x01, 0xF7]))))).map
    (·.device) = some (some 0) := by decide
/-- PB3. -/
theorem test_probe_foreign : statusOf (exec (.probe 0) (block [] (port [0xF0, 0x7E, 0x00, 0x06, 0x02, 0xF7]))) =
    some (.failed .deviceNotFound) := by decide
/-- PB4. -/
theorem test_detect : (resultOf (exec (.detect [0, 1]) (block []
    (port [] ++ [⟨1, (pr1 ++ [0xF0, 0x00, 0x20, 0x32, 0x15, 0x01, 0xF7]).map .byte⟩])))).map (·.device) =
    some (some 1) := by decide
/-- PB5. -/
theorem test_detect_none : statusOf (exec (.detect []) (block [] [])) = some (.failed .deviceNotFound) := by decide
/-- UP11. -/
theorem test_upload_empty : (resultOf (exec (.upload 0) (block [] (port [])))).map (·.reports) =
    some (some []) := by decide
/-- The acknowledgment AK1 after a sixteenth page, as UP1, under TK0. -/
theorem test_upload_ack : (resultOf (exec (.upload 0) (block0 (zeroPage 0x34 0x2F)
    (port [0xF0, 0x00, 0x20, 0x32, 0x15, 0x35, 0x00, 0x2F, 0x01, 0, 0, 0, 0, 0x00, 0xF7])))).map (·.reports) =
    some (some [⟨0x002F, 1⟩]) := by decide +kernel
/-- RT3. -/
theorem test_retrieve_nothing : outOf (exec (.retrieve 0 0x2000 0 0x15) (block [] (port []))) = some [] := by decide
/-- RT4, with the request `Q` it sends. -/
theorem test_retrieve_timeout :
    let o := exec (.retrieve 0 0x2000 0x100 0x15) (block [] (port []))
    statusOf o = some (.failed .protocolTimeout) ∧
      sentOf o = some [0xF0, 0x00, 0x20, 0x32, 0x15, 0x74, 1, 0x22, 3, 4, 5, 6, 7, 0, 0xF7] := by decide
/-- DP1: the display packet under TK0 (PG8). -/
theorem test_display : sentOf (exec (.display 0 0x15 ⟨0x54, 0x45, 0x53, 0x54⟩) (block0 [] (port []))) =
    some [0xF0, 0x00, 0x20, 0x32, 0x15, 0x34, 0x7F, 0x00, 0x22, 0x54, 0x45, 0x53, 0x54, 0x50, 0xF7] := by decide +kernel
/-- A channel that does not open (R261). -/
theorem test_display_channel : statusOf (exec (.display 1 0x15 ⟨0x54, 0x45, 0x53, 0x54⟩) (block [] (port []))) =
    some (.failed .deviceNotFound) := by decide
/-- R111. -/
theorem test_reserved : statusOf (exec (.reserved40 0) (block [] [])) = some .refused := by decide
/-- RM1 and RM2 of the receive framer. -/
theorem test_recv :
    (recvUntil (fun _ => false) .outside
      ([0x55, 0xF0, 0x00, 0xF8, 0x20, 0x32, 0x15, 0x35, 0xF7].map .byte)).msg =
        some [0xF0, 0x00, 0x20, 0x32, 0x15, 0x35, 0xF7] ∧
      (recvUntil (fun _ => false) .outside
        ([0xF0, 0x00, 0x20, 0x90, 0xF0, 0x00, 0x20, 0x32, 0x15, 0x01, 0xF7].map .byte)).msg =
        some [0xF0, 0x00, 0x20, 0x32, 0x15, 0x01, 0xF7] := by decide

/-- A block in a wait, with channel `0x00` open. -/
def waiting (q : SeqState) : State :=
  let s := block0 [] (port [])
  { s with
    dp := { Datapath.reset with seq := q }, openChan := some 0
    par := { ParamRegs.reset with start := some 0x2000, count := some 0x100 } }

/-- A probe reply in a probe wait (R265). -/
theorem test_msg_probe : seqOf (exec (.msgProbe 0x15 []) (waiting .probeWait)) = some .done := by decide
/-- The page that was asked for (R292). -/
theorem test_msg_page_write : seqOf (exec (.msgPageWrite 0x15 ([0x00, 0x20, 0x7D, 0, 0, 0, 0, 0x10] ++
    List.replicate 288 0)) (waiting .rtWait)) = some .done := by decide +kernel
/-- AK2's status 1 under TK0 (R276). -/
theorem test_msg_ack : seqOf (exec (.msgAck 0x15 [0x00, 0x2F, 0x01, 0, 0, 0, 0, 0x00]) (waiting .upWaitAck)) =
    some .upSend := by decide
/-- UP3 (R276). -/
theorem test_msg_page_read : statusOf (exec (.msgPageRead 0x15 []) (waiting .upWaitAck)) =
    some (.failed .unexpectedResponse) := by decide

/-! ## For every statement with hypotheses, a state and operands that meet them, clause by clause -/

/-- Zero bytes. -/
def zeros (n : Nat) : Bytes := List.replicate n 0

theorem witness_DecodeEncodeRoundTrip :
    (Instr.detect (zeros 255)).wf = true ∧ (Instr.msgAck 0x7F [0x7F]).wf = true ∧ (Instr.reserved80 0x7F).wf = true := by
  decide +kernel

theorem witness_StepRunsTheDecodedInstruction :
    (∃ (s : State) (rest : List Request) (desc : Bytes), s.inbox = .start desc :: rest ∧ decodeDescriptor desc = .ok .pack) ∧
    (∃ (s : State) (rest : List Request), s.inbox = .startRegs 0x15 :: rest ∧ instrOfParams 0x15 s.par = some (.upload 3)) ∧
    ((∀ p, (latched (.upload 3) p).opc = some 0x15) ∧
      ∃ (s : State) (rest : List Request), s.inbox = .startRegs 0x15 :: rest ∧
        latched (.upload 3) s.par = { s.par with opc := some 0x15 }) ∧
    (∃ (s : State) (rest : List Request) (bs : Bytes), s.inbox = .message bs :: rest ∧ decodeMessage bs = .ok (.msgProbe 0x15 [])) ∧
    decodeTableWord 8 0x02 = some .pack :=
  ⟨⟨{ State.reset with inbox := [.start [0x02]] }, [], [0x02], rfl, by decide⟩,
    ⟨{ State.reset with inbox := [.startRegs 0x15], par := { ParamRegs.reset with chan := some 3 } }, [], rfl, by decide⟩,
    ⟨fun _ => rfl, { State.reset with inbox := [.startRegs 0x15], par := { ParamRegs.reset with chan := some 3 } }, [],
      rfl, rfl⟩,
    ⟨{ State.reset with inbox := [.message [0xF0, 0x00, 0x20, 0x32, 0x15, 0x01, 0xF7]] }, [],
      [0xF0, 0x00, 0x20, 0x32, 0x15, 0x01, 0xF7], rfl, by decide⟩,
    by decide +kernel⟩

theorem witness_EveryStepAnswersNext : State.reset.inbox = [] ∧ isConversion .pack = true ∧ isChannelOp (.upload 0) = true :=
  ⟨rfl, rfl, rfl⟩

theorem witness_HostActsBetweenOperations :
    ∀ r ∈ [Request.writeParam (.seed 1), .writeParam (.cmd 1), .writeConfig (.transportKey tk1),
      .writeConfig (.ckBitOrder .msbFirst), .supply [1], .attach ⟨0, []⟩, .readResult],
      ∃ s : State, s.inbox = r :: [] ∧ (s.dp.seq = .done ∨ s.dp.seq = .failed) :=
  fun r _ => ⟨{ waiting .done with inbox := [r] }, rfl, .inl rfl⟩

theorem witness_ReservedCodesAreRefused :
    ∀ opc ∈ [(0x00 : Byte), 0x18, 0xFF], ∃ s : State, s.inbox = .start (opc :: []) :: [] ∧
      (opc = 0 ∨ 0x18 ≤ opc.toNat) := by
  intro opc h
  exact ⟨{ State.reset with inbox := [.start [opc]] }, rfl, by revert opc; decide⟩

theorem witness_MissingOperandsAreRefused :
    (∀ desc ∈ [([] : Bytes), [0x04, 1], [0x16, 0, 0, 0, 0, 0, 0, 0], [0x14]],
      desc.length < 1 + operandBytes (byteAt desc 0)) ∧
    (∃ (n : Byte) (ops : Bytes), [0x14, 0x02, 0x00] = 0x14 :: n :: ops ∧ ops.length < n.toNat) ∧
    (∃ s : State, s.inbox = .start [0x14, 0x02, 0x00] :: []) ∧
    ∃ s : State, s.inbox = .startRegs 0x04 :: [] ∧ s.par = ParamRegs.reset :=
  ⟨by decide, ⟨0x02, [0x00], by decide⟩, ⟨{ State.reset with inbox := [.start [0x14, 0x02, 0x00]] }, rfl⟩,
    ⟨{ State.reset with inbox := [.startRegs 0x04] }, rfl, rfl⟩⟩

theorem witness_UnconfiguredRegisterIsRefused :
    State.reset.cfg.transportKey = none ∧ State.reset.cfg.osT1 = none ∧ State.reset.cfg.osT2 = none ∧
      State.reset.cfg.probeRequest = none ∧ State.reset.cfg.readRequest = none := ⟨rfl, rfl, rfl, rfl, rfl⟩

theorem witness_ExpandResult :
    (block (zeros 8) []).inBuf.length % 8 = 0 ∧ (block [] []).inBuf.length % 8 = 0 ∧
      (block (zeros 7) []).inBuf.length % 8 ≠ 0 := by decide
theorem witness_PackResult :
    (block (zeros 7) []).inBuf.length % 7 = 0 ∧ (block [] []).inBuf.length % 7 = 0 ∧
      (block (zeros 8) []).inBuf.length % 7 ≠ 0 := by decide
theorem witness_TranscoderLaws :
    (zeros 14).length % 7 = 0 ∧ (zeros 16).length % 8 = 0 ∧ (zeros 259).length = 259 ∧ (zeros 7).length = 7 ∧
      (0x7F : Byte) ∈ pack (List.replicate 7 0xFF) := by decide +kernel
theorem witness_TcipherResult : (block [1] []).cfg.transportKey = some tk1 := rfl
theorem witness_WcipherResult :
    (block [1, 2] []).inBuf.length % 2 = 0 ∧ (block [1] []).inBuf.length % 2 ≠ 0 := by decide
theorem witness_CiphersAreSelfInverse : ([1, 2, 3, 4] : Bytes).length % 2 = 0 := by decide
theorem witness_ChecksumDetectsLastByte :
    ckPage .msbFirst ([1, 2] ++ [3]) = ckPage .msbFirst ([1, 2] ++ [3]) := rfl

/-- The bounds of R186: `0x7DFF4` fits, `0x7DFF5` and 0 do not. -/
theorem witness_Os2dumpResult :
    imageFits (block (zeros 1) []).inBuf ∧ ¬imageFits (block [] []).inBuf ∧ sizeFits 0x7DFF4 ∧ ¬sizeFits 0x7DFF5 ∧
      (block (zeros 1) []).cfg.osT1 = some tt1 ∧ (block (zeros 1) []).cfg.osT2 = some tt2 :=
  ⟨by unfold imageFits sizeFits; decide, by unfold imageFits sizeFits; decide, by unfold sizeFits; decide,
    by unfold sizeFits; decide, rfl, rfl⟩

/-- The dump of the image `01 02 03 04 05` up to its fill (OS7). -/
def os7 : Bytes := [4, 0, 0, 1, 0xFB, 0xCE, 0x8E, 0x16, 2, 2, 3, 7, 1, 0xFF, 0xFF, 0xFB]

/-- A short header; the size 0; missing data; a wrong checksum; and OS7. -/
theorem witness_Dump2osResult :
    (zeros 7).length < 8 ∧
    (8 ≤ (zeros 8).length ∧ ¬sizeFits (wordcode tt1 tt2 (wordAt [1, 0, 0, 1, 2, 0, 0, 2] 0) 0).toNat) ∧
    (sizeFits (wordcode tt1 tt2 (wordAt (os7.take 12) 0) 0).toNat ∧ 8 ≤ (os7.take 12).length ∧
      (os7.take 12).length < 8 + align4 (wordcode tt1 tt2 (wordAt (os7.take 12) 0) 0).toNat) ∧
    (∀ d ∈ [os7, os7.set 12 0], sizeFits (wordcode tt1 tt2 (wordAt d 0) 0).toNat ∧
      8 + align4 (wordcode tt1 tt2 (wordAt d 0) 0).toNat ≤ d.length) ∧
    imageChecksum [0x04030201, 0xFFFFFF05] = wordcode tt1 tt2 (wordAt os7 4) 1 ∧
    imageChecksum [0x04030201, 0xFFFFFF04] ≠ wordcode tt1 tt2 (wordAt (os7.set 12 0) 4) 1 := by
  unfold sizeFits; decide +kernel

/-- OS7's dump is accepted; its checksum word begins at byte 4 and its image words end before byte 16. -/
theorem witness_DumpChangeIsDetected :
    ∃ t, exec .dump2os (block os7 []) = .next t ∧ t.returned (Output.ofBytes [1, 2, 3, 4, 5]) ∧
      (block os7 []).cfg.osT1 = some tt1 ∧ (block os7 []).cfg.osT2 = some tt2 ∧
      (∀ k ∈ [4, 15], 4 ≤ k ∧ k < 8 + align4 (wordcode tt1 tt2 (wordAt (block os7 []).inBuf 0) 0).toNat ∧
        (0x5A : Byte) ≠ byteAt (block os7 []).inBuf k) :=
  ⟨_, rfl, ⟨[], by decide +kernel⟩, rfl, rfl, by decide +kernel⟩

theorem witness_Dump2osInvertsOs2dump :
    (block [1] []).cfg.osT1 = some tt1 ∧ (block [1] []).cfg.osT2 = some tt2 ∧ imageFits (block [1] []).inBuf :=
  ⟨rfl, rfl, by unfold imageFits sizeFits; decide⟩

/-- Stray bytes before, between and after messages; and a stream without any. -/
theorem witness_FrameSplitsStream :
    let f : Framing := ⟨[([0xF7], [0x7F]), ([], [])], [0xFF]⟩
    let g : Framing := ⟨[([], [0x7F])], []⟩
    f.sound ∧ (block [0xF7, 0xF0, 0x7F, 0xF7, 0xF0, 0xF7, 0xFF] []).inBuf = f.stream ∧ ¬f.noStray ∧
      g.sound ∧ (block [0xF0, 0x7F, 0xF7] []).inBuf = g.stream ∧ g.noStray ∧
      (block [] []).cfg.transportKey ≠ none ∧ (block [] []).cfg.osT1 ≠ none ∧ (block [] []).cfg.osT2 ≠ none := by
  unfold Framing.sound Framing.noStray; decide

/-- A message not ended, and one cut by the status byte `0x80`. -/
theorem witness_FrameRejectsMalformed :
    let f : Framing := ⟨[], [0x55]⟩
    f.sound ∧ (∀ b ∈ ([0x01] : Bytes), b.toNat < 0x80) ∧
      (block [0x55, 0xF0, 0x01] []).inBuf = f.stream ++ 0xF0 :: [0x01] ++ [] ∧
      (block [0x55, 0xF0, 0x01, 0x80] []).inBuf = f.stream ++ 0xF0 :: [0x01] ++ [0x80] ∧
      (∃ x tail, ([0x80] : Bytes) = x :: tail ∧ 0x80 ≤ x.toNat ∧ x ≠ 0xF7) ∧
      (block [] []).cfg.transportKey ≠ none ∧ (block [] []).cfg.osT1 ≠ none ∧ (block [] []).cfg.osT2 ≠ none :=
  ⟨by unfold Framing.sound; decide, by decide, rfl, rfl, ⟨0x80, [], by decide⟩, by decide, by decide, by decide⟩

theorem witness_PageencResult :
    (block (zeros 256) []).cfg.transportKey = some tk1 ∧ (block (zeros 256) []).inBuf.length = 256 ∧
      (block (zeros 255) []).inBuf.length ≠ 256 := ⟨rfl, by decide +kernel, by decide +kernel⟩

/-- The page payload of index `0x0022` with zero data under TK0, as `zeroPage` carries it. -/
def zeroPayload : Bytes := [0x00, 0x22, 0x7D, 0, 0, 0, 0, 0x10] ++ List.replicate 288 0

theorem witness_PagedecResult :
    (block0 zeroPayload []).cfg.transportKey = some tk0 ∧
      (block0 (zeros 288) []).inBuf.length ≠ 296 ∧
      ((zeros 296).length = 296 ∧
        ckPage .lsbFirst ((tcipher tk0 (expand (zeros 296))).drop 3) ≠ byteAt (tcipher tk0 (expand (zeros 296))) 2) ∧
      (zeroPayload.length = 296 ∧
        ckPage .lsbFirst ((tcipher tk0 (expand zeroPayload)).drop 3) = byteAt (tcipher tk0 (expand zeroPayload)) 2) ∧
      zeroPayload = pagePayload .lsbFirst tk0 0x0022 (zeros 256) ∧ (zeros 256).length = 256 :=
  ⟨rfl, by decide +kernel, by decide +kernel, by decide +kernel, by decide +kernel, by decide +kernel⟩

theorem witness_MsgbuildResult :
    ((0x7F : Byte).toNat < 0x80 ∧ (block (zeros 8) []).inBuf.length % 8 = 0 ∧
      ∀ b ∈ (block (zeros 8) []).inBuf, b.toNat < 0x80) ∧
    0x80 ≤ (0x80 : Byte).toNat ∧ (block (zeros 1) []).inBuf.length % 8 ≠ 0 ∧
      ∃ b ∈ (block [0x80] []).inBuf, 0x80 ≤ b.toNat := by decide

/-- A page after a foreign message and one of another command. -/
def dumpPage7F : DumpPage := ⟨[[0x7E], [0x00, 0x20, 0x32, 0x15, 0x35]], 0x7F, zeros 256⟩

theorem dumpPage_sound : dumpPage7F.sound :=
  ⟨by unfold skipped mfrMessage dumpPage7F; decide, by decide, by decide +kernel⟩

theorem dumpPages_sound (xs : List DumpPage) (h : ∀ x ∈ xs, x = dumpPage7F) : ∀ x ∈ xs, x.sound :=
  fun x hx => h x hx ▸ dumpPage_sound

/-- One page at the highest page index, of either family, with a skipped message after it; and two from `0x2100`, inside
a sector. -/
theorem witness_Syx2dumpOfPages :
    ∀ c ∈ [(0x74 : Byte), 0x34], ∀ q ∈ [(0xFFFF, [dumpPage7F]), (0x21, [dumpPage7F, dumpPage7F])],
      let after : List Bytes := [[0x00, 0x20, 0x32, 0x15, 0x01]]
      let s := block (dumpStream .lsbFirst tk1 c q.1 q.2 ++ framedBytes after) []
      s.cfg.transportKey = some tk1 ∧ (c = 0x74 ∨ c = 0x34) ∧ q.2 ≠ [] ∧ (∀ x ∈ q.2, x.sound) ∧
        (∀ body ∈ after, skipped body) ∧ q.1 + q.2.length ≤ 2 ^ 16 ∧
        s.inBuf = dumpStream s.cfg.ckBitOrder tk1 c q.1 q.2 ++ framedBytes after := by
  intro c hc q hq
  refine ⟨rfl, by simpa using hc, ?_, dumpPages_sound q.2 ?_, by unfold skipped mfrMessage; decide, ?_, rfl⟩
  · revert q; decide +kernel
  · revert q; decide +kernel
  · revert q; decide +kernel

/-- Skipped messages only; and after no page or one: a payload of the wrong length (a display packet), a wrong checksum,
a repeated page, and the other family. -/
theorem witness_Syx2dumpErrors :
    let before : List Bytes := [[], [0x00, 0x20, 0x32, 0x15, 0x01]]
    let good := fun (xs : List DumpPage) => dumpStream .lsbFirst tk0 0x34 0x21 xs ++ framedBytes before
    let s := fun (xs : List DumpPage) (c : Byte) (payload : Bytes) =>
      block0 (good xs ++ messageBytes 0x15 c payload ++ framedBytes [[0x02]]) []
    let again := pagePayload .lsbFirst tk0 0x21 (zeros 256)
    (∀ body ∈ before, skipped body) ∧ (block0 (good []) []).inBuf = good [] ∧ (∀ x ∈ [dumpPage7F], x.sound) ∧
      (∀ xs c payload, (s xs c payload).cfg.transportKey = some tk0 ∧
        (s xs c payload).inBuf = dumpStream (s xs c payload).cfg.ckBitOrder tk0 0x34 0x21 xs ++ framedBytes before ++
          messageBytes 0x15 c payload ++ framedBytes [[0x02]]) ∧
      (∀ b ∈ zeros 8, b.toNat < 0x80) ∧ (zeros 8).length ≠ 296 ∧
      ((∀ b ∈ zeros 296, b.toNat < 0x80) ∧ (zeros 296).length = 296 ∧
        byteAt (tcipher tk0 (expand (zeros 296))) 2 ≠ ckPage .lsbFirst ((tcipher tk0 (expand (zeros 296))).drop 3)) ∧
      ((∀ b ∈ again, b.toNat < 0x80) ∧ again.length = 296 ∧
        byteAt (tcipher tk0 (expand again)) 2 = ckPage .lsbFirst ((tcipher tk0 (expand again)).drop 3) ∧
        (byteAt (tcipher tk0 (expand again)) 0 ++ byteAt (tcipher tk0 (expand again)) 1).toNat ≠
          0x21 + [dumpPage7F].length) ∧
      (0x74 : Byte) ≠ 0x34 :=
  ⟨by unfold skipped mfrMessage; decide, rfl, dumpPages_sound _ (by decide +kernel), fun _ _ _ => ⟨rfl, rfl⟩,
    by decide, by decide, by decide +kernel, by decide +kernel, by decide⟩

/-- The lowest base, the last sector, the last sector below the sentinel; the ranges just outside; and a seed given for one
address twice, of which the first counts. -/
theorem witness_Dump2syxResult :
    legalRange (2 ^ 24) 0x2000 0x7F 4096 ∧ legalRange (2 ^ 24) 0xFFF000 0 4096 ∧ legalRange (2 ^ 24) 0xFEF000 0 4096 ∧
      legalRange (2 ^ 24) 0x2000 0 0 ∧ ¬legalRange (2 ^ 24) 0x1000 0 4096 ∧ ¬legalRange (2 ^ 24) 0x2800 0 4096 ∧
      ¬legalRange (2 ^ 24) 0x2000 0x80 4096 ∧ ¬legalRange (2 ^ 24) 0xFFF000 0 8192 ∧
      ¬legalRange (2 ^ 24) 0xFF0000 0 4096 ∧ (block [1] []).cfg.addrLimit = 2 ^ 24 ∧
      alignUp (block [1] []).inBuf.length 4096 = 4096 ∧
      (∀ v, ((0x2000 : Addr), v) ∉ (SeedOf.mk []).entries) ∧
      (SeedOf.mk [(0x2000, 1), (0x2000, 2)]).entries = [] ++ (0x2000, 1) :: [(0x2000, 2)] ∧
      ∀ w, ((0x2000 : Addr), w) ∉ ([] : List (Addr × Half)) := by
  unfold legalRange
  refine ⟨?_, ?_, ?_, ?_, ?_, ?_, ?_, ?_, ?_, rfl, ?_, fun v => List.not_mem_nil, rfl, fun w => List.not_mem_nil⟩ <;>
    decide

theorem witness_Syx2dumpInvertsDump2syx :
    (∀ s ∈ [block [1] [], block [] []], s.cfg.transportKey = some tk1) ∧ 0 < (block [1] []).inBuf.length ∧
      legalRange (block [1] []).cfg.addrLimit 0x2000 0x15
        ((block [1] []).inBuf ++ List.replicate (alignUp (block [1] []).inBuf.length 4096 -
          (block [1] []).inBuf.length) 0 : Bytes).length ∧
      (block [] []).inBuf = [] ∧ legalRange (block [] []).cfg.addrLimit 0x2000 0x15 0 := by
  refine ⟨by decide, by decide, ?_, rfl, by unfold legalRange; decide⟩
  rw [List.length_append, List.length_replicate]
  unfold legalRange; decide +kernel

theorem witness_Syx2osInvertsOs2syx :
    let s := block [1] []
    s.cfg.transportKey = some tk1 ∧ s.cfg.osT1 = some tt1 ∧ s.cfg.osT2 = some tt2 ∧ imageFits s.inBuf ∧
      legalRange s.cfg.addrLimit 0x2000 0x15 (alignUp (8 + align4 s.inBuf.length) 4096) :=
  ⟨rfl, rfl, rfl, by unfold imageFits sizeFits; decide, by unfold legalRange; decide +kernel⟩

/-- A first part that fails, and one that succeeds, for both composites. -/
theorem witness_CompositesActAsTheirParts :
    (∃ t, exec .syx2dump (block [] []) = .next t ∧ t.errKind = some .formatError) ∧
    (∃ t, exec .syx2dump (block0 (zeroPage 0x74 0x22) []) = .next t ∧
      t.returned ⟨zeros 256, some 0x2200, none, none⟩) ∧
    (∃ t, exec .os2dump (block [] []) = .next t ∧ t.errKind = some .sizeOutOfRange) ∧
    ∃ t, exec .os2dump (block [1] []) = .next t ∧ t.returned (Output.ofBytes t.outBuf) ∧
      (block [1] []).cfg.transportKey ≠ none :=
  ⟨⟨_, rfl, by decide⟩, ⟨_, rfl, ⟨[], by decide +kernel⟩⟩, ⟨_, rfl, by decide⟩,
    ⟨_, rfl, ⟨_, rfl⟩, by decide⟩⟩

theorem witness_RecvMsgFrames :
    (∀ b ∈ ([0x55, 0xF7] : Bytes), b ≠ 0xF0) ∧ (∀ b ∈ ([0x7F, 0xF8] : Bytes), b.toNat < 0x80 ∨ 0xF8 ≤ b.toNat) ∧
      ∀ x ∈ ([0x80, 0xF6] : Bytes), 0x80 ≤ x.toNat ∧ x.toNat < 0xF8 ∧ x ≠ 0xF7 ∧ x ≠ 0xF0 := by decide

/-- PB1's script with a foreign message before it; the script without the reply; and with the reply only after a `NoData`. -/
theorem witness_ProbeFindsDevice :
    let bodies : List Bytes := [[0x00, 0x20, 0x32, 0x00, 0x01], [0x7E]]
    let reply := messageBytes 0x15 0x01 []
    let answer : List RecvItem := reply.map .byte
    let s := fun (script : List RecvItem) => block [] [⟨0, (framedBytes bodies).map .byte ++ script⟩]
    (s []).cfg.probeRequest = some pr1 ∧ (∀ body ∈ bodies, probeEcho pr1 body) ∧ reply ≠ pr1 ∧
      scriptOf 0 (s answer).channels = some ((framedBytes bodies ++ reply).map .byte ++ []) ∧
      scriptOf 0 (s []).channels = some ((framedBytes bodies).map .byte ++ []) ∧
      scriptOf 0 (s (.noData :: answer)).channels = some ((framedBytes bodies).map .byte ++ .noData :: answer) ∧
      (RecvItem.noData :: answer).head? = some .noData :=
  ⟨rfl, by unfold probeEcho mfrMessage; decide, by decide, rfl, rfl, rfl, rfl⟩

/-- One candidate that does not open, one with an echo, a `NoData` and a foreign message, one that answers after an echo. -/
theorem witness_DetectTakesFirstAnswer :
    let echo : Bytes := [0x00, 0x20, 0x32, 0x00, 0x01]
    let script : List RecvItem := (framedBytes [echo]).map .byte ++ [.noData] ++ (framedBytes [[0x7E]]).map .byte
    let answer := (framedBytes [echo] ++ messageBytes 0x15 0x01 []).map RecvItem.byte ++ []
    let s := block [] [⟨1, script⟩, ⟨2, answer⟩]
    s.cfg.probeRequest = some pr1 ∧
      (∀ c ∈ ([0, 1] : Bytes), ∀ script, scriptOf c s.channels = some script → silentScript pr1 script) ∧
      (∀ body ∈ [echo], probeEcho pr1 body) ∧ messageBytes 0x15 0x01 [] ≠ pr1 ∧ scriptOf 2 s.channels = some answer := by
  refine ⟨rfl, ?_, by unfold probeEcho mfrMessage; decide, by decide, rfl⟩
  intro c hc script h
  simp only [List.mem_cons, List.not_mem_nil, or_false] at hc
  obtain rfl | rfl := hc
  · cases h
  · refine ⟨[[[0x00, 0x20, 0x32, 0x00, 0x01]]], [[0x7E]], by unfold probeEcho mfrMessage; decide, ?_⟩
    exact (Option.some.inj h).symm

/-- The highest range that `RETRIEVE` accepts, and a stream with stray bytes, on a channel the platform does not list. -/
theorem witness_UnopenableChannel :
    let f : Framing := ⟨[([0x55], [0x01])], [0xF7]⟩
    let s := block f.stream []
    scriptOf 9 s.channels = none ∧ s.cfg.probeRequest ≠ none ∧ s.cfg.transportKey ≠ none ∧ f.sound ∧
      s.inBuf = f.stream ∧ s.cfg.readRequest ≠ none ∧ (0x7F : Byte).toNat < 0x80 ∧ (0xFFFF00 : Addr).toNat % 0x100 = 0 ∧
      (0x100 : Addr).toNat % 0x100 = 0 ∧ (0xFFFF00 : Addr).toNat + (0x100 : Addr).toNat ≤ s.cfg.addrLimit ∧
      (0xFFFF00 : Addr).toNat + (0x100 : Addr).toNat ≤ 2 ^ 24 := by unfold Framing.sound; decide

theorem witness_UploadWithoutWait :
    let f : Framing := ⟨[([], [0x01]), ([0x55], [])], []⟩
    let s := block f.stream (port [])
    s.cfg.transportKey = some tk1 ∧ f.sound ∧ (∀ p ∈ f.segs, ¬endsSector tk1 (framedMsg p.2)) ∧
      s.inBuf = f.stream ∧ scriptOf 0 s.channels ≠ none :=
  ⟨rfl, by unfold Framing.sound; decide, by unfold endsSector mfrMessage; decide +kernel, rfl, by decide⟩

/-- The exchange of one sector: another message and a sixteenth page; an echo, and an acknowledgment of status 3. -/
def exchange : SectorExchange := ⟨[[0x01]], 0x2F, zeros 256, [[0x00]], 0x002F, 0x03, zeros 4⟩

theorem exchange_sound : exchange.sound tk1 :=
  ⟨by decide, by unfold endsSector mfrMessage; decide +kernel, by decide +kernel, by decide, by decide, by decide,
    by decide⟩

/-- Two sectors, then a message after the last wait. -/
theorem witness_UploadReportsAcknowledgment :
    let xs := [exchange, exchange]
    let tail : List Bytes := [[0x02]]
    let answers := xs.map (·.answer tk1 true 0x15)
    let s := block ((xs.map (·.stream .lsbFirst tk1 0x15)).flatten ++ framedBytes tail)
      [⟨0, answers.flatten.map RecvItem.byte ++ []⟩]
    s.cfg.transportKey = some tk1 ∧ (∀ x ∈ xs, x.sound tk1) ∧ (∀ b ∈ tail.flatten, b.toNat < 0x80) ∧
      (∀ body ∈ tail, ¬endsSector tk1 (framedMsg body)) ∧
      s.inBuf = (xs.map (·.stream s.cfg.ckBitOrder tk1 0x15)).flatten ++ framedBytes tail ∧
      scriptOf 0 s.channels = some ((xs.map (·.answer tk1 s.cfg.ackCiphered 0x15)).flatten.map .byte ++ []) :=
  ⟨rfl, fun x h => by
      have e : x = exchange := by simpa using h
      exact e ▸ exchange_sound,
    by decide, by unfold endsSector mfrMessage; decide +kernel, rfl, rfl⟩

/-- The body of `zeroPage 0x34 0x2F`, a sixteenth page. -/
def lastPageBody : Bytes := [0x00, 0x20, 0x32, 0x15, 0x34, 0x00, 0x2F, 0x7D, 0, 0, 0, 0, 0x10] ++ List.replicate 288 0

/-- After one good sector: silence, and every answer that is no acknowledgment. -/
theorem witness_UploadStopsAtUnacknowledgedSector :
    let before : List Bytes := [[0x01]]
    let after : List Bytes := [[0x02]]
    let s := fun (answer : List RecvItem) =>
      block0 ((([] : List SectorExchange).map (·.stream .lsbFirst tk0 0x15)).flatten ++
        framedBytes (before ++ lastPageBody :: after)) [⟨0, (messageBytes 0x15 0x34 [0x00]).map .byte ++ answer⟩]
    (∀ answer, (s answer).cfg.transportKey = some tk0 ∧
      (s answer).inBuf = (([] : List SectorExchange).map (·.stream (s answer).cfg.ckBitOrder tk0 0x15)).flatten ++
        framedBytes (before ++ lastPageBody :: after) ∧
      scriptOf 0 (s answer).channels =
        some (((([] : List SectorExchange).map (·.answer tk0 (s answer).cfg.ackCiphered 0x15)).flatten ++
          ([[0x00]].map (messageBytes 0x15 0x34)).flatten).map .byte ++ answer)) ∧
      (∀ b ∈ (before ++ lastPageBody :: after).flatten, b.toNat < 0x80) ∧
      (∀ x ∈ before, ¬endsSector tk0 (framedMsg x)) ∧ endsSector tk0 (framedMsg lastPageBody) ∧
      (RecvItem.noData :: []).head? = some .noData ∧ (∀ b ∈ ([0x01] : Bytes), b.toNat < 0x80) ∧
      ([0x01] : Bytes).length % 8 ≠ 0 ∧ 3 < (0x04 : Byte).toNat ∧ 3 < (0xFF : Byte).toNat ∧ (3 + (zeros 4).length) % 7 = 0 ∧
      (0x74 : Byte).toNat < 0x80 ∧ (0x74 : Byte) ≠ 0x34 ∧ (0x74 : Byte) ≠ 0x35 ∧ ¬mfrMessage (framedMsg [0x7E]) :=
  ⟨fun _ => ⟨rfl, rfl, rfl⟩, by decide +kernel, by unfold endsSector mfrMessage; decide +kernel,
    by unfold endsSector mfrMessage; decide +kernel, by decide, by decide, by decide, by decide, by decide, by decide,
    by decide, by decide, by decide, by unfold mfrMessage; decide⟩

/-- The device's answer to one page request: an echo, and the page under another model byte. -/
def pageExchange : PageExchange := ⟨[[0x00]], 0x7F, zeros 256⟩

theorem pageExchange_sound : pageExchange.sound := ⟨by decide, by decide, by decide +kernel⟩

/-- The last two pages of the address space. -/
theorem witness_RetrieveReturnsPages :
    let xs := [pageExchange, pageExchange]
    let answers := (xs.zipIdx 0xFFFE).map fun x => x.1.answer .lsbFirst tk1 0x15 x.2
    let s := block [] [⟨0, answers.flatten.map RecvItem.byte ++ []⟩]
    s.cfg.transportKey = some tk1 ∧ s.cfg.readRequest = some rr1 ∧ (0x15 : Byte).toNat < 0x80 ∧ (∀ x ∈ xs, x.sound) ∧
      (0xFFFE00 : Addr).toNat = 256 * 0xFFFE ∧ (0x200 : Addr).toNat = 256 * xs.length ∧
      (0xFFFE00 : Addr).toNat + (0x200 : Addr).toNat ≤ s.cfg.addrLimit ∧
      (0xFFFE00 : Addr).toNat + (0x200 : Addr).toNat ≤ 2 ^ 24 ∧
      scriptOf 0 s.channels =
        some (((xs.zipIdx 0xFFFE).map fun x => x.1.answer s.cfg.ckBitOrder tk1 0x15 x.2).flatten.map .byte ++ []) :=
  ⟨rfl, rfl, by decide, fun x h => by
      have e : x = pageExchange := by simpa using h
      exact e ▸ pageExchange_sound,
    by decide, by decide, by decide, by decide, rfl⟩

/-- A pair of model byte and page index that is listed, and one that is not. -/
theorem witness_RetrieveReturnsPages_request :
    rr1.entries = [] ++ ⟨0x15, 0x0020, [0x01, 0x22, 0x03, 0x04, 0x05, 0x06, 0x07, 0x00]⟩ :: [] ∧
      (∀ e ∈ ([] : List RequestEntry), e.model = 0x15 → e.pidx ≠ 0x0020) ∧
      ∀ e ∈ rr1.entries, e.model = 0x15 → e.pidx ≠ 0x0021 := ⟨rfl, by simp, by decide⟩

/-- One range for every check before the channel opens; a count of 0 at the highest start; and for the first of two pages
every answer that is not the page. -/
theorem witness_RetrieveChecks :
    let s := block [] (port [])
    let wrong := pagePayload .lsbFirst tk0 0x0021 (zeros 256)
    (s.cfg.transportKey = some tk1 ∧ s.cfg.readRequest = some rr1 ∧ (0x2080 : Addr).toNat % 0x100 ≠ 0 ∧
      (0x80 : Addr).toNat % 0x100 ≠ 0 ∧ 0x80 ≤ (0x80 : Byte).toNat ∧
      s.cfg.addrLimit < (0xFFFF00 : Addr).toNat + (0x200 : Addr).toNat ∧
      (0xFFFF00 : Addr).toNat % 0x100 = 0 ∧ (0xFFFF00 : Addr).toNat ≤ s.cfg.addrLimit ∧
      scriptOf 0 s.channels ≠ none) ∧
    ((0x2000 : Addr).toNat = 256 * 0x20 ∧ (0x200 : Addr).toNat = 256 * 2 ∧ ([] : List PageExchange).length < 2) ∧
    (∀ answer : List RecvItem, scriptOf 0 (block [] [⟨0, (messageBytes 0x15 0x74 [0x00]).map .byte ++ answer⟩]).channels =
      some ((((([] : List PageExchange).zipIdx 0x20).map fun x => x.1.answer .lsbFirst tk1 0x15 x.2).flatten ++
        ([[0x00]].map (messageBytes 0x15 0x74)).flatten).map .byte ++ answer)) ∧
    (0x35 : Byte) ≠ 0x34 ∧ (0x35 : Byte) ≠ 0x74 ∧ (zeros 8).length ≠ 296 ∧
    ((zeros 296).length = 296 ∧ byteAt (tcipher tk0 (expand (zeros 296))) 2 ≠
      ckPage .lsbFirst ((tcipher tk0 (expand (zeros 296))).drop 3)) ∧
    (wrong.length = 296 ∧ byteAt (tcipher tk0 (expand wrong)) 2 = ckPage .lsbFirst ((tcipher tk0 (expand wrong)).drop 3) ∧
      byteAt (tcipher tk0 (expand wrong)) 0 ++ byteAt (tcipher tk0 (expand wrong)) 1 ≠ BitVec.ofNat 16 (0x20 + 0)) ∧
    ¬mfrMessage (framedMsg [0x7E]) :=
  ⟨⟨rfl, rfl, by decide, by decide, by decide, by decide, by decide, by decide, by decide⟩, by decide, fun _ => rfl,
    by decide, by decide, by decide, by decide +kernel, by decide +kernel, by unfold mfrMessage; decide⟩

theorem witness_RetrieveOutputIsReadback :
    ∃ t o, exec (.retrieve 0 0x2200 0x100 0x15) (block0 [] (port (zeroPage 0x34 0x22))) = .next t ∧ t.returned o :=
  ⟨_, Output.ofBytes (zeroPage 0x74 0x22), rfl, ⟨[], by decide +kernel⟩⟩

theorem witness_DisplaySendsPacket :
    (block [] (port [])).cfg.transportKey = some tk1 ∧ (0x7F : Byte).toNat < 0x80 ∧ 0x80 ≤ (0x80 : Byte).toNat ∧
      scriptOf 0 (block [] (port [])).channels ≠ none := ⟨rfl, by decide, by decide, by decide⟩

theorem witness_MessageOutsideWaitDoesNothing :
    (waiting .idle).dp.seq.isRest = true ∧ (waiting .done).dp.seq.isRest = true ∧
      (waiting .failed).dp.seq.isRest = true := ⟨rfl, rfl, rfl⟩
theorem witness_MessagesInAckWait :
    (waiting .upWaitAck).cfg.transportKey = some tk0 ∧ (waiting .upWaitAck).dp.seq = .upWaitAck ∧
      (waiting .upWaitAck).cfg.ackCiphered = true ∧ (0x03 : Byte).toNat ≤ 3 ∧ (3 + (zeros 4).length) % 7 = 0 :=
  ⟨rfl, rfl, rfl, by decide, by decide⟩

/-- The first of one page (the last wanted), and the first of two (one more wanted). -/
theorem witness_MessagesInPageWait :
    let s := waiting .rtWait
    let s' := { s with par := { s.par with count := some 0x200 } }
    s.cfg.transportKey = some tk0 ∧ s.dp.seq = .rtWait ∧ s.par.start = some 0x2000 ∧ s.par.count = some 0x100 ∧
      (0x100 : Addr).toNat / 256 ≤ s.dp.page + 1 ∧ s'.par.count = some 0x200 ∧
      s'.dp.page + 1 < (0x200 : Addr).toNat / 256 ∧ (zeros 256).length = 256 :=
  ⟨rfl, rfl, rfl, rfl, by decide, rfl, by decide, by decide +kernel⟩

/-- The echo, and a reply. -/
theorem witness_MessagesInProbeWait :
    (waiting .probeWait).cfg.probeRequest = some pr1 ∧ (waiting .probeWait).openChan = some 0 ∧
      (waiting .probeWait).dp.seq = .probeWait ∧ messageBytes 0x00 0x01 [] = pr1 ∧ messageBytes 0x15 0x01 [] ≠ pr1 :=
  ⟨rfl, rfl, rfl, by decide, by decide⟩

theorem witness_OperationsWriteNoConfiguration : ∃ t, exec .pack State.reset = .next t := ⟨_, rfl⟩
theorem witness_ConversionsTouchNoChannel :
    ∃ t, isConversion .pack = true ∧ exec .pack State.reset = .next t := ⟨_, rfl, rfl⟩
theorem witness_OperationsKeepNoState :
    ∃ t t', isConversion .pack = true ∧ (waiting .failed).cfg = (block0 [] (port [])).cfg ∧
      (waiting .failed).inBuf = (block0 [] (port [])).inBuf ∧
      (waiting .failed).channels = (block0 [] (port [])).channels ∧
      exec .pack (waiting .failed) = .next t ∧ exec .pack (block0 [] (port [])) = .next t' :=
  ⟨_, _, rfl, rfl, rfl, rfl, rfl, rfl⟩
theorem witness_ChannelOperationsEndTheSequencer :
    isChannelOp (.detect []) = true ∧
      (∃ t, exec (.detect []) (block [] []) = .next t ∧ t.errKind = some .deviceNotFound) ∧
      ∃ t, exec (.upload 0) (block [] (port [])) = .next t ∧ t.returned ⟨[], none, some [], none⟩ :=
  ⟨rfl, ⟨_, rfl, by decide⟩, ⟨_, rfl, ⟨[], by decide⟩⟩⟩
theorem witness_EveryStepKeepsRest : ∃ t, State.reset.atRest = true ∧ step State.reset = .next t := ⟨_, rfl, rfl⟩
theorem witness_EveryStepKeepsOneEvent : ∃ t, State.reset.oneEvent = true ∧ step State.reset = .next t := ⟨_, rfl, rfl⟩
theorem witness_AppendKeepsBuffer : 1 + 1 ≤ ([1, 2] : Bytes).length ∧ ([1, 2] : Bytes).length < 2 + 1 := by decide

end Sys2Proof.Tests
end

section
/-! How an instruction ends: one inversion of `exec` (`exec_execEnds`), from which what an instruction keeps of the
host's registers, how it leaves `SEQ` and the port, and the invariant of the state between operations follow. -/

namespace Sys2Proof.Machine

/-! ## What a whole operation leaves alone -/

/-- Between `s` and `t` the configuration, the parameter registers, `IN` and the queue of acts stayed. -/
structure KeepsHost (s t : State) : Prop where
  cfg : t.cfg = s.cfg
  par : t.par = s.par
  inBuf : t.inBuf = s.inBuf
  inbox : t.inbox = s.inbox

theorem KeepsHost.refl (s : State) : KeepsHost s s := ⟨rfl, rfl, rfl, rfl⟩

theorem KeepsHost.trans {s t u : State} (h : KeepsHost s t) (k : KeepsHost t u) : KeepsHost s u :=
  ⟨k.cfg.trans h.cfg, k.par.trans h.par, k.inBuf.trans h.inBuf, k.inbox.trans h.inbox⟩

/-- What a whole channel operation may do: `Ported`, but for the event that framing `IN` may emit. -/
structure Held (s t : State) : Prop extends KeepsHost s t where
  events : s.dp.events.length ≤ 1 → t.dp.events.length ≤ 1
  ck : s.dp.ck.getLsbD 8 = false → t.dp.ck.getLsbD 8 = false

theorem Held.trans {s t u : State} (h : Held s t) (k : Held t u) : Held s u :=
  ⟨h.toKeepsHost.trans k.toKeepsHost, fun e => k.events (h.events e), fun c => k.ck (h.ck c)⟩

/-- What a whole conversion may do: `Quiet`, but for the event that framing `IN` may emit. -/
structure Confined (s t : State) : Prop where
  outside : t = { s with dp := t.dp }
  events : s.dp.events.length ≤ 1 → t.dp.events.length ≤ 1
  ck : s.dp.ck.getLsbD 8 = false → t.dp.ck.getLsbD 8 = false

theorem Confined.refl (s : State) : Confined s s := ⟨rfl, id, id⟩

theorem Confined.trans {s t u : State} (h : Confined s t) (k : Confined t u) : Confined s u :=
  ⟨by rw [k.outside, h.outside], fun e => k.events (h.events e), fun c => k.ck (h.ck c)⟩

theorem Confined.openChan {s t : State} (h : Confined s t) : t.openChan = s.openChan := by rw [h.outside]

theorem Confined.held {s t : State} (h : Confined s t) : Held s t where
  cfg := by rw [h.outside]
  par := by rw [h.outside]
  inBuf := by rw [h.outside]
  inbox := by rw [h.outside]
  events := h.events
  ck := h.ck

theorem Quiet.confined {s t : State} (h : Quiet s t) : Confined s t := ⟨h.outside, h.events ▸ id, h.ck⟩

theorem Ported.held {s t : State} (h : Ported s t) : Held s t :=
  ⟨⟨h.cfg, h.par, h.inBuf, h.inbox⟩, h.events ▸ id, h.ck⟩

/-! ## The state a part of an operation leaves -/

/-- The state that a part of an operation leaves, whether it answers or raises. -/
def Run.last {α : Type} : Run α → State
  | .ok _ s => s
  | .raised _ s => s

@[simp] theorem Run.last_ok {α : Type} (a : α) (s : State) : (Run.ok a s).last = s := rfl
@[simp] theorem Run.last_raised {α : Type} (e : Err) (s : State) : (Run.raised e s : Run α).last = s := rfl

theorem Run.Quiet.confined {α : Type} {s : State} {r : Run α} (h : r.Quiet s) : Confined s r.last := by
  cases r with
  | ok a t => exact Machine.Quiet.confined h
  | raised e t => exact Machine.Quiet.confined h

theorem Run.Ported.held {α : Type} {s : State} {r : Run α} (h : r.Ported s) : Held s r.last := by
  cases r with
  | ok a t => exact Machine.Ported.held h
  | raised e t => exact Machine.Ported.held h

theorem Run.andThen_confined {α β : Type} {s : State} {r : Run α} {k : α → State → Run β}
    (h : Confined s r.last) (hk : ∀ a t, Confined t (k a t).last) : Confined s (r.andThen k).last := by
  cases r with
  | ok a t => exact h.trans (hk a t)
  | raised e t => exact h

theorem Run.andThen_held {α β : Type} {s : State} {r : Run α} {k : α → State → Run β}
    (h : Held s r.last) (hk : ∀ a t, Held t (k a t).last) : Held s (r.andThen k).last := by
  cases r with
  | ok a t => exact h.trans (hk a t)
  | raised e t => exact h

/-! ## The operations that frame `IN` -/

theorem frameIn_confined (input : Bytes) (s : State) : Confined s (frameIn input s).last := by
  obtain ⟨r, -, hlen, ⟨-, hok⟩ | ⟨e, -, hraised⟩⟩ := frameIn_spec input s
  · rw [hok]; exact ⟨rfl, fun _ => hlen, id⟩
  · rw [hraised]; exact ⟨rfl, fun _ => hlen, id⟩

theorem syx2dumpRun_confined (key : Vector Byte 13) (stream : Bytes) (s : State) :
    Confined s (syx2dumpRun key stream s).last :=
  Run.andThen_confined (frameIn_confined stream s) fun msgs t =>
    ((dumpMsgs_quiet key msgs t).andThen fun d u => dumpFinish_quiet d u).confined

theorem uploadRun_held (key : Vector Byte 13) (c : Byte) (stream : Bytes) (s : State) :
    Held s (uploadRun key c stream s).last :=
  Run.andThen_held (frameIn_confined stream s).held fun msgs t =>
    ((openPort_ported c t).andThen fun _ u => (uploadFrom_ported key true msgs u).andThen fun _ v =>
      doneWith_ported _ v).held

/-! ## `SEQ` when a channel operation answers -/

/-- When the run answers, `SEQ` is at `DONE` (R305). -/
def Run.EndsDone (r : Run Output) : Prop := ∀ o s, r = .ok o s → s.dp.seq = .done

theorem Run.EndsDone.raised (e : Err) (s : State) : (Run.raised e s).EndsDone := fun _ _ h => nomatch h

theorem Run.EndsDone.doneWith (o : Output) (s : State) : (doneWith o s).EndsDone := by
  rintro o' s' ⟨⟩
  rfl

theorem Run.EndsDone.andThen {α : Type} (r : Run α) {k : α → State → Run Output} (hk : ∀ a s, (k a s).EndsDone) :
    (r.andThen k).EndsDone := by
  intro o s h
  obtain ⟨a, t, -, hka⟩ := Run.andThen_eq_ok h
  exact hk a t o s hka

theorem detectFrom_endsDone (req cands : Bytes) (s : State) : (detectFrom req cands s).EndsDone := by
  induction cands generalizing s with
  | nil => exact Run.EndsDone.raised _ s
  | cons c rest ih =>
    unfold detectFrom
    split
    · exact Run.EndsDone.doneWith _ _
    · exact ih _

theorem uploadRun_endsDone (key : Vector Byte 13) (c : Byte) (stream : Bytes) (s : State) :
    (uploadRun key c stream s).EndsDone :=
  .andThen _ fun _ _ => .andThen _ fun _ _ => .andThen _ fun _ _ => .doneWith _ _

theorem retrieveRun_endsDone (key : Vector Byte 13) (rr : ReadRequest) (c : Byte) (start count : Addr) (model : Byte)
    (s : State) : (retrieveRun key rr c start count model s).EndsDone := by
  unfold retrieveRun
  dsimp only
  split
  · exact .raised _ s
  split
  · exact .raised _ s
  split
  · exact .raised _ s
  · exact .andThen _ fun _ _ => .andThen _ fun _ _ => .doneWith _ _

theorem displayRun_endsDone (key : Vector Byte 13) (c model : Byte) (label : Label) (s : State) :
    (displayRun key c model label s).EndsDone := by
  unfold displayRun
  split
  · exact .raised _ s
  · exact .andThen _ fun _ _ => .doneWith _ _

/-! ## The inversion of `exec` -/

/-- The ways in which instruction `i`, run at `s`, can end: refused; as a conversion, which writes datapath registers
only; as a channel operation, which writes `SEQ <- DONE` before it answers; or as a wire message that is delivered. -/
inductive ExecEnds (i : Instr) (s : State) : State → Prop where
  | refused : ExecEnds i s (s.latch (latched i)).refuse
  | converted {r : Run Output} (hi : isConversion i = true) (hr : Confined (s.latch (latched i)).begin r.last) :
      ExecEnds i s (finish r)
  | channeled {r : Run Output} (hi : isChannelOp i = true) (hr : Held (s.latch (latched i)).begin r.last)
      (hd : r.EndsDone) : ExecEnds i s (finishChannel r)
  | delivered (m : Bytes) (hi : Laws.isWireMessage i = true) : ExecEnds i s (s.deliver m)

/-! An operation that reads a configuration register is refused or runs with its value (R342). -/

theorem withKey_cases {P : State → Prop} {s : State} {run : Vector Byte 13 → State} (hrefuse : P s.refuse)
    (hrun : ∀ key, P (run key)) : P (s.withKey run) := by
  unfold State.withKey
  split
  · exact hrefuse
  · exact hrun _

theorem withTables_cases {P : State → Prop} {s : State} {run : Vector Word 15 → Vector Word 14 → State}
    (hrefuse : P s.refuse) (hrun : ∀ t1 t2, P (run t1 t2)) : P (s.withTables run) := by
  unfold State.withTables
  split
  · exact hrun _ _
  · exact hrefuse

theorem withProbeRequest_cases {P : State → Prop} {s : State} {run : Bytes → State} (hrefuse : P s.refuse)
    (hrun : ∀ req, P (run req)) : P (s.withProbeRequest run) := by
  unfold State.withProbeRequest
  split
  · exact hrefuse
  · exact hrun _

theorem withReadRequest_cases {P : State → Prop} {s : State} {run : ReadRequest → State} (hrefuse : P s.refuse)
    (hrun : ∀ rr, P (run rr)) : P (s.withReadRequest run) := by
  unfold State.withReadRequest
  split
  · exact hrefuse
  · exact hrun _

/-- A conversion whose run is quiet. -/
theorem ExecEnds.ofQuiet {i : Instr} {s : State} {r : Run Output} (hi : isConversion i = true)
    (hr : r.Quiet (s.latch (latched i)).begin) : ExecEnds i s (finish r) := .converted hi hr.confined

/-- A conversion of bytes to bytes whose run is quiet. -/
theorem ExecEnds.ofQuietBytes {i : Instr} {s : State} {r : Run Bytes} (hi : isConversion i = true)
    (hr : r.Quiet (s.latch (latched i)).begin) : ExecEnds i s (finish (r.andThen onlyOut)) :=
  .ofQuiet hi (hr.andThen onlyOut_quiet)

/-- Every instruction answers a next state, in one of the ways of `ExecEnds`. -/
theorem exec_execEnds (i : Instr) (s : State) : ∃ t, exec i s = .next t ∧ ExecEnds i s t := by
  cases i with
  | expand => exact ⟨_, rfl, .ofQuietBytes rfl (expandRun_quiet _ _)⟩
  | pack => exact ⟨_, rfl, .ofQuietBytes rfl (packRun_quiet _ _)⟩
  | tcipher => exact ⟨_, rfl, withKey_cases .refused fun _ => .ofQuiet rfl (Quiet.putTki _ _)⟩
  | wcipher seed => exact ⟨_, rfl, .ofQuietBytes rfl (wcipherRun_quiet _ _ _)⟩
  | ckupd b c => exact ⟨_, rfl, .ofQuiet rfl (Quiet.putCk (ckByte_bit8 _ _ _) _)⟩
  | ckpage => exact ⟨_, rfl, .ofQuiet rfl (Quiet.putCk (ckAfter_bit8 _ _) _)⟩
  | wordcode w o => exact ⟨_, rfl, withTables_cases .refused fun _ _ => .ofQuiet rfl (onlyOut_quiet _ _)⟩
  | icksum => exact ⟨_, rfl, .ofQuietBytes rfl (icksumRun_quiet _ _)⟩
  | dump2os => exact ⟨_, rfl, withTables_cases .refused fun _ _ => .ofQuietBytes rfl (dump2osRun_quiet _ _ _ _)⟩
  | os2dump => exact ⟨_, rfl, withTables_cases .refused fun _ _ => .ofQuietBytes rfl (os2dumpRun_quiet _ _ _ _)⟩
  | frame =>
    exact ⟨_, rfl, .converted rfl (Run.andThen_confined (frameIn_confined _ _) fun _ t => .refl t)⟩
  | pagedec => exact ⟨_, rfl, withKey_cases .refused fun _ => .ofQuietBytes rfl (pagedecRun_quiet _ _ _)⟩
  | pageenc p => exact ⟨_, rfl, withKey_cases .refused fun _ => .ofQuietBytes rfl (pageencRun_quiet _ _ _ _)⟩
  | msgbuild m c => exact ⟨_, rfl, .ofQuietBytes rfl (msgbuildRun_quiet _ _ _ _)⟩
  | syx2dump => exact ⟨_, rfl, withKey_cases .refused fun _ => .converted rfl (syx2dumpRun_confined _ _ _)⟩
  | dump2syx b m => exact ⟨_, rfl, withKey_cases .refused fun _ => .ofQuietBytes rfl (dump2syxRun_quiet _ _ _ _ _)⟩
  | syx2os =>
    exact ⟨_, rfl, withKey_cases .refused fun _ => withTables_cases .refused fun _ _ => .converted rfl <|
      Run.andThen_confined (syx2dumpRun_confined _ _ _) fun _ t =>
        Run.andThen_confined (dump2osRun_quiet _ _ _ t).confined fun _ u => .refl u⟩
  | os2syx b m =>
    exact ⟨_, rfl, withKey_cases .refused fun _ => withTables_cases .refused fun _ _ => .ofQuiet rfl <|
      (os2dumpRun_quiet _ _ _ _).andThen fun _ t => (dump2syxRun_quiet _ _ _ _ t).andThen onlyOut_quiet⟩
  | probe c =>
    exact ⟨_, rfl, withProbeRequest_cases .refused fun _ => .channeled rfl
      ((probeRun_ported _ _ _).andThen fun _ t => doneWith_ported _ t).held (.andThen _ fun _ _ => .doneWith _ _)⟩
  | detect cs =>
    exact ⟨_, rfl, withProbeRequest_cases .refused fun _ => .channeled rfl
      (detectFrom_ported _ _ _).held (detectFrom_endsDone _ _ _)⟩
  | upload c =>
    exact ⟨_, rfl, withKey_cases .refused fun _ => .channeled rfl
      (uploadRun_held _ _ _ _) (uploadRun_endsDone _ _ _ _)⟩
  | retrieve c a n m =>
    exact ⟨_, rfl, withKey_cases .refused fun _ => withReadRequest_cases .refused fun _ => .channeled rfl
      (retrieveRun_ported _ _ _ _ _ _ _).held (retrieveRun_endsDone _ _ _ _ _ _ _)⟩
  | display c m l =>
    exact ⟨_, rfl, withKey_cases .refused fun _ => .channeled rfl
      (displayRun_ported _ _ _ _ _).held (displayRun_endsDone _ _ _ _ _)⟩
  | reserved00 => exact ⟨_, rfl, .refused⟩
  | reserved18 low => exact ⟨_, rfl, .refused⟩
  | reserved20 low => exact ⟨_, rfl, .refused⟩
  | reserved40 low => exact ⟨_, rfl, .refused⟩
  | reserved80 low => exact ⟨_, rfl, .refused⟩
  | msgProbe m p => exact ⟨_, rfl, .delivered _ rfl⟩
  | msgPageWrite m p => exact ⟨_, rfl, .delivered _ rfl⟩
  | msgAck m p => exact ⟨_, rfl, .delivered _ rfl⟩
  | msgPageRead m p => exact ⟨_, rfl, .delivered _ rfl⟩

theorem execEnds_of_next {i : Instr} {s t : State} (h : exec i s = .next t) : ExecEnds i s t := by
  obtain ⟨u, hu, hends⟩ := exec_execEnds i s
  cases hu.symm.trans h
  exact hends

/-! ## What an instruction keeps of the host's registers -/

theorem finish_keepsHost (r : Run Output) : KeepsHost r.last (finish r) := by
  cases r <;> exact ⟨rfl, rfl, rfl, rfl⟩

theorem closePort_keepsHost (s : State) : KeepsHost s s.closePort := (Ported.closePort s).held.toKeepsHost

theorem finishChannel_keepsHost (r : Run Output) : KeepsHost r.last (finishChannel r) := by
  cases r with
  | ok o s => exact (closePort_keepsHost s).trans ⟨rfl, rfl, rfl, rfl⟩
  | raised e s =>
    have hfailed : KeepsHost s (s.setSeq .failed) := ⟨rfl, rfl, rfl, rfl⟩
    exact (hfailed.trans (closePort_keepsHost _)).trans ⟨rfl, rfl, rfl, rfl⟩

theorem finishChannel_keepsHost_of_ported {s : State} {r : Run Output} (h : r.Ported s) :
    KeepsHost s (finishChannel r) := h.held.toKeepsHost.trans (finishChannel_keepsHost r)

theorem probeMessage_keepsHost (m : Bytes) (s : State) : KeepsHost s (probeMessage m s) := by
  unfold probeMessage
  split
  · split
    · exact .refl s
    · exact finishChannel_keepsHost_of_ported (doneWith_ported _ s)
  · exact .refl s

theorem ackMessage_keepsHost (m : Bytes) (s : State) : KeepsHost s (ackMessage m s) := by
  unfold ackMessage
  split
  · next key _ =>
    split
    · exact .refl s
    · have hack := acceptAck_ported key m s
      split
      · next r t heq =>
        rw [heq] at hack
        exact (Ported.trans hack (Ported.addReport r t)).held.toKeepsHost
      · next e t heq =>
        rw [heq] at hack
        exact finishChannel_keepsHost_of_ported hack
  · exact .refl s

theorem pageMessage_keepsHost (m : Bytes) (s : State) : KeepsHost s (pageMessage m s) := by
  unfold pageMessage
  split
  · next key start _ _ _ _ =>
    split
    · exact .refl s
    · have hreply := acceptReply_ported key (retrievePidx start s) m s
      split
      · next r t heq =>
        rw [heq] at hreply
        have hadd : Ported s (t.addReply r) := Ported.trans hreply (Ported.addReply r t)
        split
        · exact (hadd.trans (Ported.setSeq .rtSend _)).held.toKeepsHost
        · exact finishChannel_keepsHost_of_ported ((doneWith_ported _ _).after hadd)
      · next e t heq =>
        rw [heq] at hreply
        exact finishChannel_keepsHost_of_ported hreply
  · exact .refl s

theorem deliver_keepsHost (m : Bytes) (s : State) : KeepsHost s (s.deliver m) := by
  unfold State.deliver
  split
  case h_1 => exact probeMessage_keepsHost m s
  case h_2 => exact ackMessage_keepsHost m s
  case h_3 => exact pageMessage_keepsHost m s
  all_goals exact .refl s

theorem latched_of_isWireMessage {i : Instr} (h : Laws.isWireMessage i = true) (p : ParamRegs) : latched i p = p :=
  match i, h with
  | .msgProbe _ _, _ => rfl
  | .msgPageWrite _ _, _ => rfl
  | .msgAck _ _, _ => rfl
  | .msgPageRead _ _, _ => rfl

theorem ExecEnds.keepsHost {i : Instr} {s t : State} (h : ExecEnds i s t) : KeepsHost (s.latch (latched i)) t := by
  cases h with
  | refused => exact ⟨rfl, rfl, rfl, rfl⟩
  | converted _ hr =>
    have hbegin : KeepsHost (s.latch (latched i)) (s.latch (latched i)).begin := ⟨rfl, rfl, rfl, rfl⟩
    exact (hbegin.trans hr.held.toKeepsHost).trans (finish_keepsHost _)
  | channeled _ hr _ =>
    have hbegin : KeepsHost (s.latch (latched i)) (s.latch (latched i)).begin := ⟨rfl, rfl, rfl, rfl⟩
    exact (hbegin.trans hr.toKeepsHost).trans (finishChannel_keepsHost _)
  | delivered m hi =>
    have hlatch : KeepsHost (s.latch (latched i)) s := ⟨rfl, (latched_of_isWireMessage hi s.par).symm, rfl, rfl⟩
    exact hlatch.trans (deliver_keepsHost m s)

/-- Settles O53, by the inversion of `exec`: every way in which an instruction ends keeps what is the host's. -/
theorem operationsWriteNoConfiguration : Obligations.OperationsWriteNoConfiguration := by
  intro i s t h
  obtain ⟨hcfg, hpar, hinBuf, hinbox⟩ := (execEnds_of_next h).keepsHost
  exact ⟨hcfg, hpar, hinBuf, hinbox⟩

/-! ## How a channel operation ends -/

theorem isConversion_eq_false_of_isChannelOp {i : Instr} (h : isChannelOp i = true) : isConversion i = false :=
  match i, h with
  | .probe _, _ => rfl
  | .detect _, _ => rfl
  | .upload _, _ => rfl
  | .retrieve _ _ _ _, _ => rfl
  | .display _ _ _, _ => rfl

theorem isWireMessage_eq_false_of_isChannelOp {i : Instr} (h : isChannelOp i = true) :
    Laws.isWireMessage i = false :=
  match i, h with
  | .probe _, _ => rfl
  | .detect _, _ => rfl
  | .upload _, _ => rfl
  | .retrieve _ _ _ _, _ => rfl
  | .display _ _ _, _ => rfl

/-- The end of a channel operation, as the host sees it: `DONE` with an output or `FAILED` with an error kind, the
channel closed either way. -/
theorem finishChannel_ends {r : Run Output} (hd : r.EndsDone) :
    (∀ o, (finishChannel r).returned o →
      (finishChannel r).dp.seq = .done ∧ (finishChannel r).openChan = none) ∧
    ∀ k, (finishChannel r).errKind = some k →
      (finishChannel r).dp.seq = .failed ∧ (finishChannel r).openChan = none := by
  cases r with
  | ok o s =>
    have hdone : s.dp.seq = .done := hd o s rfl
    exact ⟨fun _ _ => by simp [hdone], fun _ herr => by simp at herr⟩
  | raised e s =>
    exact ⟨fun _ hret => absurd hret (not_returned_returnError _ _ _), fun _ _ => by simp⟩

/-- Settles O56, by the inversion of `exec`: a channel operation is refused, which is neither end, or ends by
`finishChannel`. -/
theorem channelOperationsEndTheSequencer : Obligations.ChannelOperationsEndTheSequencer := by
  intro i s t hi h
  cases execEnds_of_next h with
  | refused => exact ⟨fun o hret => absurd hret (not_returned_refuse _ o), fun k herr => by simp at herr⟩
  | converted hc _ => simp [isConversion_eq_false_of_isChannelOp hi] at hc
  | channeled _ _ hd => exact finishChannel_ends hd
  | delivered _ hm => simp [isWireMessage_eq_false_of_isChannelOp hi] at hm

/-! ## The state between operations -/

theorem atRest_iff (s : State) :
    s.atRest = true ↔ s.openChan = none ∧ s.dp.seq.isRest = true ∧ s.dp.ck.getLsbD 8 = false := by
  simp [State.atRest, and_assoc]

theorem begin_ck_bit8 (s : State) : s.begin.dp.ck.getLsbD 8 = false := by simp

/-- No wait stands while the block is at rest, so a message does nothing (R325). -/
theorem deliver_of_atRest {s : State} (hs : s.atRest = true) (m : Bytes) : s.deliver m = s := by
  obtain ⟨-, hseq, -⟩ := (atRest_iff s).1 hs
  unfold State.deliver
  split
  case h_1 hq => rw [hq] at hseq; cases hseq
  case h_2 hq => rw [hq] at hseq; cases hseq
  case h_3 hq => rw [hq] at hseq; cases hseq
  all_goals rfl

theorem finish_atRest {s : State} {r : Run Output} (hr : Confined s r.last) (hport : s.openChan = none)
    (hck : s.dp.ck.getLsbD 8 = false) : (finish r).atRest = true := by
  have hport' := hr.openChan.trans hport
  have hck' := hr.ck hck
  rw [atRest_iff]
  cases r with
  | ok o u => exact ⟨hport', rfl, hck'⟩
  | raised e u => exact ⟨hport', rfl, hck'⟩

theorem finishChannel_atRest {s : State} {r : Run Output} (hr : Held s r.last) (hd : r.EndsDone)
    (hck : s.dp.ck.getLsbD 8 = false) : (finishChannel r).atRest = true := by
  have hck' := hr.ck hck
  rw [atRest_iff]
  cases r with
  | ok o u =>
    have hdone : u.dp.seq = .done := hd o u rfl
    exact ⟨by simp, by simp [hdone, SeqState.isRest], by simpa using hck'⟩
  | raised e u => exact ⟨by simp, by simp [SeqState.isRest], by simpa using hck'⟩

theorem ExecEnds.atRest {i : Instr} {s t : State} (h : ExecEnds i s t) (hs : s.atRest = true) : t.atRest = true := by
  cases h with
  | refused => exact hs
  | converted _ hr => exact finish_atRest hr ((atRest_iff s).1 hs).1 (begin_ck_bit8 _)
  | channeled _ hr hd => exact finishChannel_atRest hr hd (begin_ck_bit8 _)
  | delivered m _ => rwa [deliver_of_atRest hs]

theorem readResult_atRest {s : State} (hs : s.atRest = true) : s.readResult.atRest = true := by
  obtain ⟨hport, -, hck⟩ := (atRest_iff s).1 hs
  unfold State.readResult
  split
  · exact (atRest_iff _).2 ⟨hport, rfl, hck⟩
  · exact hs

theorem deliverBytes_of_atRest {s : State} (hs : s.atRest = true) (bs : Bytes) : s.deliverBytes bs = s := by
  unfold State.deliverBytes
  split
  · rfl
  · exact deliver_of_atRest hs _

/-- What an act leaves at rest: the state in which it starts an instruction, or the state after it. -/
def Fetched.AtRest : Fetched → Prop
  | .run _ s => s.atRest = true
  | .served s => s.atRest = true

theorem serve_atRest (r : Request) {s : State} (hs : s.atRest = true) : (serve r s).AtRest := by
  cases r with
  | start desc => unfold serve; dsimp only; split <;> exact hs
  | startRegs opc => unfold serve; dsimp only; split <;> exact hs
  | writeParam w => exact hs
  | writeConfig w => exact hs
  | supply input => exact hs
  | readResult => exact readResult_atRest hs
  | attach ch => exact hs
  | message bs =>
    unfold serve
    dsimp only
    split
    · exact hs
    · rw [deliverBytes_of_atRest hs]; exact hs

theorem fetch_atRest {s : State} (hs : s.atRest = true) : (fetch s).AtRest := by
  unfold fetch
  split
  · exact hs
  · exact serve_atRest _ hs

/-- Settles O57: an act starts its instruction at rest or leaves the block at rest, and every way in which an
instruction ends does too. -/
theorem everyStepKeepsRest : Obligations.EveryStepKeepsRest := by
  intro s t hs h
  have hfetch := fetch_atRest hs
  unfold step at h
  split at h
  · next i u heq =>
    rw [heq] at hfetch
    exact (execEnds_of_next h).atRest hfetch
  · next u heq =>
    rw [heq] at hfetch
    cases h
    exact hfetch

end Sys2Proof.Machine
end

section
/-! What serving one act does: the instruction an act starts, and the state after an act that starts none. -/

namespace Sys2Proof.Machine

/-! ## A step by the oldest act -/

/-- When the oldest act starts an instruction, the step runs it. -/
theorem step_of_serve_run {s u : State} {r : Request} {rest : List Request} {i : Instr} (hbox : s.inbox = r :: rest)
    (hserve : serve r { s with inbox := rest } = .run i u) : step s = exec i u := by
  simp only [step, fetch, hbox, hserve]

/-- When the oldest act starts no instruction, the step answers the state after it. -/
theorem step_of_serve_served {s u : State} {r : Request} {rest : List Request} (hbox : s.inbox = r :: rest)
    (hserve : serve r { s with inbox := rest } = .served u) : step s = .next u := by
  simp only [step, fetch, hbox, hserve]

/-! ## The acts that start an instruction -/

theorem serve_start {desc : Bytes} {i : Instr} (h : decodeDescriptor desc = .ok i) (s : State) :
    serve (.start desc) s = .run i s := by
  simp only [serve, h]

theorem serve_startRegs {opc : Byte} {i : Instr} {s : State} (h : instrOfParams opc s.par = some i) :
    serve (.startRegs opc) s = .run i s := by
  simp only [serve, h]

theorem serve_message {bs : Bytes} {i : Instr} (h : decodeMessage bs = .ok i) (s : State) :
    serve (.message bs) s = .run i s := by
  simp only [serve, h]

/-- The request made of bytes starts the instruction they decode to, in either encoding. -/
theorem serve_requestOf {bs : Bytes} {i : Instr} (h : decode bs = .ok i) (s : State) :
    serve (requestOf bs) s = .run i s := by
  unfold decode at h
  unfold requestOf
  split at h
  · next hrow => rw [if_pos hrow]; exact serve_message h s
  · next hrow => rw [if_neg hrow]; exact serve_start h s

theorem decode_of_decodeTableWord {nbits w : Nat} {i : Instr} (h : decodeTableWord nbits w = some i) :
    decode (tableBytes nbits w) = .ok i := by
  unfold decodeTableWord at h
  split at h
  · next j heq => rw [heq]; cases h; rfl
  · cases h

theorem step_withFetchWord {nbits w : Nat} {i : Instr} (h : decodeTableWord nbits w = some i) (s : State) :
    step (s.withFetchWord nbits w) = exec i s :=
  step_of_serve_run rfl (serve_requestOf (decode_of_decodeTableWord h) s)

/-! ## The start on the parameter registers -/

/-! A reserved code is read as its own row, with the free bits it carries (R111). -/

theorem decodeReserved_reserved18 (low : BitVec 3) : decodeReserved (0x18 ||| low.setWidth 8) = .reserved18 low := by
  revert low; decide
theorem decodeReserved_reserved20 (low : BitVec 5) : decodeReserved (0x20 ||| low.setWidth 8) = .reserved20 low := by
  revert low; decide
theorem decodeReserved_reserved40 (low : BitVec 6) : decodeReserved (0x40 ||| low.setWidth 8) = .reserved40 low := by
  revert low; decide
theorem decodeReserved_reserved80 (low : BitVec 7) : decodeReserved (0x80 ||| low.setWidth 8) = .reserved80 low := by
  revert low; decide

/-- Setting bits does not make a code smaller. -/
theorem le_toNat_or (a b : Byte) : a.toNat ≤ (a ||| b).toNat := by
  rw [BitVec.toNat_or]
  exact Nat.left_le_or

/-- The codes above those of the operations are reserved, whatever the parameter registers hold. -/
theorem instrOfParams_of_reserved {opc : Byte} (h : 0x18 ≤ opc.toNat) (p : ParamRegs) :
    instrOfParams opc p = some (decodeReserved opc) := by
  unfold instrOfParams
  split
  case h_24 => rfl
  all_goals omega

/-- The register `OPC` is no operand. -/
theorem instrOfParams_setOpc (opc : Byte) (o : Option Byte) (p : ParamRegs) :
    instrOfParams opc { p with opc := o } = instrOfParams opc p := rfl

/-- A wire message has no operation code. -/
theorem isWireMessage_eq_false_of_latched_opc {i : Instr} {opc : Byte}
    (h : ∀ p, (latched i p).opc = some opc) : Laws.isWireMessage i = false := by
  cases hm : Laws.isWireMessage i with
  | false => rfl
  | true =>
    have hreset := h ParamRegs.reset
    rw [latched_of_isWireMessage hm] at hreset
    cases hreset

/-- The operands an instruction leaves in the parameter registers are those that a start on them reads back. -/
theorem instrOfParams_latched {i : Instr} {opc : Byte} {p : ParamRegs} (hi : Laws.isWireMessage i = false)
    (hopc : (latched i p).opc = some opc) : instrOfParams opc (latched i p) = some i := by
  cases i
  case reserved18 low =>
    cases hopc
    rw [instrOfParams_of_reserved (le_toNat_or 0x18 _), decodeReserved_reserved18]
  case reserved20 low =>
    cases hopc
    rw [instrOfParams_of_reserved (Nat.le_trans (by decide) (le_toNat_or 0x20 _)), decodeReserved_reserved20]
  case reserved40 low =>
    cases hopc
    rw [instrOfParams_of_reserved (Nat.le_trans (by decide) (le_toNat_or 0x40 _)), decodeReserved_reserved40]
  case reserved80 low =>
    cases hopc
    rw [instrOfParams_of_reserved (Nat.le_trans (by decide) (le_toNat_or 0x80 _)), decodeReserved_reserved80]
  case msgProbe => cases hi
  case msgPageWrite => cases hi
  case msgAck => cases hi
  case msgPageRead => cases hi
  all_goals cases hopc; rfl

/-- A code whose operation names the values that the registers hold starts that operation (R22). -/
theorem instrOfParams_of_latched {i : Instr} {opc : Byte} {p : ParamRegs}
    (hopc : ∀ q, (latched i q).opc = some opc) (hregs : latched i p = { p with opc := some opc }) :
    instrOfParams opc p = some i := by
  have hread := instrOfParams_latched (isWireMessage_eq_false_of_latched_opc hopc) (hopc p)
  rwa [hregs, instrOfParams_setOpc] at hread

/-- Settles O3: the act starts the instruction it names, whichever of the starts it is, and the step runs it. -/
theorem stepRunsTheDecodedInstruction : Obligations.StepRunsTheDecodedInstruction := by
  intro s rest i
  refine ⟨fun desc hbox hdec => step_of_serve_run hbox (serve_start hdec _), fun opc hbox hstart => ?_,
    fun bs hbox hdec => step_of_serve_run hbox (serve_message hdec _), fun nbits w hdec => step_withFetchWord hdec s⟩
  have hparams : instrOfParams opc s.par = some i :=
    hstart.elim id fun ⟨hopc, hregs⟩ => instrOfParams_of_latched hopc hregs
  exact step_of_serve_run hbox (serve_startRegs hparams)

/-! ## The acts that start none -/

/-- Reading a result that is there returns `SEQ` to `IDLE` (R28). -/
theorem readResult_of_ended {s : State} (h : s.dp.seq = .done ∨ s.dp.seq = .failed) :
    s.readResult = s.setSeq .idle := if_pos h

/-- Settles O5, act by act. -/
theorem hostActsBetweenOperations : Obligations.HostActsBetweenOperations := by
  intro s rest
  refine ⟨fun w hbox => ?_, fun w hbox => ?_, fun v hbox => step_of_serve_served hbox rfl, fun c script hbox => ?_,
    fun hbox hend => ?_⟩
  · rw [step_of_serve_served hbox rfl]
    cases w <;> rfl
  · rw [step_of_serve_served hbox rfl]
    cases w <;> rfl
  · refine ⟨_, step_of_serve_served hbox rfl, ?_, fun d hd => ?_⟩
    · exact (scriptOf_attachChannel _ _ c).trans (if_pos rfl)
    · exact (scriptOf_attachChannel _ _ d).trans (if_neg hd)
  · refine ⟨State.setSeq .idle { s with inbox := rest }, ?_, rfl, rfl, rfl, rfl, rfl, setSeq_sent .idle _⟩
    exact step_of_serve_served hbox (congrArg Fetched.served (readResult_of_ended hend))

end Sys2Proof.Machine
end

section
/-! Noninterference: two runs of one operation, from states that agree on the configuration, `IN` and the scripts, go in
lock step (`Run.Both`), so their results and what they leave of the scripts agree (spec/10_state.md R31). -/

namespace Sys2Proof.Machine

/-! ## What a started operation can see of a state -/

/-- The state without what no part of an operation reads while the channel is open: `WREG`, the host's registers and
acts, the result, and the model's own records. -/
def State.seen (s : State) : State :=
  { s with
    par := ParamRegs.reset
    dp := { s.dp with wreg := 0 }
    inBuf := []
    result := none
    trace := []
    inbox := []
    freeCount := 0 }

/-- What is seen of a state while the operation has opened no channel: which one an earlier operation left open is
hidden too. -/
def State.bare (s : State) : State := { s.seen with openChan := none }

/-- The operation cannot tell the states apart once it has opened its channel. -/
structure Wired (s t : State) : Prop where
  seen : s.seen = t.seen

/-- The operation cannot tell the states apart as long as it uses no channel. -/
structure Alike (s t : State) : Prop where
  bare : s.bare = t.bare

theorem Alike.cfg {s t : State} (h : Alike s t) : s.cfg = t.cfg := congrArg (·.cfg) h.bare
theorem Alike.channels {s t : State} (h : Alike s t) : s.channels = t.channels := congrArg (·.channels) h.bare
theorem Alike.outBuf {s t : State} (h : Alike s t) : s.outBuf = t.outBuf := congrArg (·.outBuf) h.bare
theorem Alike.family {s t : State} (h : Alike s t) : s.dp.family = t.dp.family := congrArg (·.dp.family) h.bare
theorem Alike.lastAddr {s t : State} (h : Alike s t) : s.dp.lastAddr = t.dp.lastAddr := congrArg (·.dp.lastAddr) h.bare
theorem Alike.dbase {s t : State} (h : Alike s t) : s.dp.dbase = t.dp.dbase := congrArg (·.dp.dbase) h.bare
theorem Alike.reports {s t : State} (h : Alike s t) : s.dp.reports = t.dp.reports := congrArg (·.dp.reports) h.bare
theorem Alike.events {s t : State} (h : Alike s t) : s.dp.events = t.dp.events := congrArg (·.dp.events) h.bare
theorem Alike.page {s t : State} (h : Alike s t) : s.dp.page = t.dp.page := congrArg (·.dp.page) h.bare

theorem Wired.alike {s t : State} (h : Wired s t) : Alike s t :=
  ⟨congrArg (fun u : State => { u with openChan := none }) h.seen⟩

theorem Wired.openChan {s t : State} (h : Wired s t) : s.openChan = t.openChan := congrArg (·.openChan) h.seen

theorem Alike.wired {s t : State} (h : Alike s t) (hport : s.openChan = t.openChan) : Wired s t :=
  ⟨congrArg₂ (fun (u : State) c => { u with openChan := c }) h.bare hport⟩

/-- An update whose visible effect depends only on what is seen keeps two states alike. -/
theorem Alike.update {f : State → State} {s t : State} (h : Alike s t) (hf : ∀ u, (f u).bare = (f u.bare).bare) :
    Alike (f s) (f t) where
  bare :=
    calc (f s).bare = (f s.bare).bare := hf s
      _ = (f t.bare).bare := congrArg (fun u => (f u).bare) h.bare
      _ = (f t).bare := (hf t).symm

/-- The same of states with an open channel. -/
theorem Wired.update {f : State → State} {s t : State} (h : Wired s t) (hf : ∀ u, (f u).seen = (f u.seen).seen) :
    Wired (f s) (f t) where
  seen :=
    calc (f s).seen = (f s.seen).seen := hf s
      _ = (f t.seen).seen := congrArg (fun u => (f u).seen) h.seen
      _ = (f t).seen := (hf t).symm

section Updates

variable {s t : State}

theorem Alike.putTki (i : Fin 13) (h : Alike s t) : Alike (s.putTki i) (t.putTki i) := h.update fun _ => rfl
theorem Alike.putCk (ck : BitVec 9) (h : Alike s t) : Alike (s.putCk ck) (t.putCk ck) := h.update fun _ => rfl
theorem Alike.putImageSum (a : ImageSum) (h : Alike s t) : Alike (s.putImageSum a) (t.putImageSum a) :=
  h.update fun _ => rfl
theorem Alike.putWofs (o : Nat) (h : Alike s t) : Alike (s.putWofs o) (t.putWofs o) := h.update fun _ => rfl
theorem Alike.putFrame (r : FrameRun) (h : Alike s t) : Alike (s.putFrame r) (t.putFrame r) := h.update fun _ => rfl
theorem Alike.acceptPage (a : Addr) (h : Alike s t) : Alike (s.acceptPage a) (t.acceptPage a) := h.update fun _ => rfl
theorem Alike.putPage (key : Vector Byte 13) (pidx : Half) (data : Bytes) (h : Alike s t) :
    Alike (s.putPage key pidx data) (t.putPage key pidx data) := h.update fun _ => rfl
theorem Alike.setSeq (q : SeqState) (h : Alike s t) : Alike (s.setSeq q) (t.setSeq q) := h.update fun _ => rfl
theorem Alike.sendMsg (m : Bytes) (h : Alike s t) : Alike (s.sendMsg m) (t.sendMsg m) := h.update fun _ => rfl

/-- No value of `WREG` is seen, so both states may be given their own. -/
theorem Alike.putWreg (w w' : Half) (h : Alike s t) : Alike (s.putWreg w) (t.putWreg w') := ⟨h.bare⟩

theorem Wired.putTki (i : Fin 13) (h : Wired s t) : Wired (s.putTki i) (t.putTki i) := h.update fun _ => rfl
theorem Wired.setSeq (q : SeqState) (h : Wired s t) : Wired (s.setSeq q) (t.setSeq q) := h.update fun _ => rfl
theorem Wired.sendMsg (m : Bytes) (h : Wired s t) : Wired (s.sendMsg m) (t.sendMsg m) := h.update fun _ => rfl
theorem Wired.addReport (r : Report) (h : Wired s t) : Wired (s.addReport r) (t.addReport r) := h.update fun _ => rfl
theorem Wired.addReply (m : Bytes) (h : Wired s t) : Wired (s.addReply m) (t.addReply m) := h.update fun _ => rfl

end Updates

/-- An operation's start hides everything but the configuration and the scripts. -/
theorem begin_alike {s t : State} (hcfg : s.cfg = t.cfg) (hchans : s.channels = t.channels) :
    Alike s.begin t.begin where
  bare := by simp only [State.bare, State.seen, State.begin, hcfg, hchans, Datapath.start]

theorem closePort_bare (s : State) : s.closePort.bare = s.bare := by
  unfold State.closePort
  split <;> rfl

theorem Alike.closePort {s t : State} (h : Alike s t) : Alike s.closePort t.closePort :=
  ⟨(closePort_bare s).trans (h.bare.trans (closePort_bare t).symm)⟩

/-! ## Two runs in lock step -/

/-- Both runs answer the same value, or both raise the same error, and the states they leave are related. -/
inductive Run.Both {α : Type} (R : State → State → Prop) : Run α → Run α → Prop where
  | ok {a : α} {s t : State} (h : R s t) : Run.Both R (.ok a s) (.ok a t)
  | raised {e : Err} {s t : State} (h : R s t) : Run.Both R (.raised e s) (.raised e t)

theorem Run.Both.andThen {α β : Type} {R Q : State → State → Prop} {r r' : Run α} {k k' : α → State → Run β}
    (h : r.Both R r') (hRQ : ∀ {s t}, R s t → Q s t) (hk : ∀ a s t, R s t → (k a s).Both Q (k' a t)) :
    (r.andThen k).Both Q (r'.andThen k') := by
  cases h with
  | ok h => exact hk _ _ _ h
  | raised h => exact .raised (hRQ h)

/-- A part that uses no channel runs in lock step also while one is open. -/
theorem Run.Both.wired {α : Type} {r r' : Run α} {s s' : State} (h : r.Both Alike r') (hr : r.Quiet s)
    (hr' : r'.Quiet s') (hport : s.openChan = s'.openChan) : r.Both Wired r' := by
  cases h with
  | ok h => exact .ok (h.wired (hr.confined.openChan.trans (hport.trans hr'.confined.openChan.symm)))
  | raised h => exact .raised (h.wired (hr.confined.openChan.trans (hport.trans hr'.confined.openChan.symm)))

/-! ## The parts of a conversion -/

section Conversions

variable {s t : State}

theorem onlyOut_both (out : Bytes) (h : Alike s t) : (onlyOut out s).Both Alike (onlyOut out t) := .ok h

theorem andThen_onlyOut_both {r r' : Run Bytes} (h : r.Both Alike r') :
    (r.andThen onlyOut).Both Alike (r'.andThen onlyOut) := h.andThen id fun out _ _ h => onlyOut_both out h

theorem expandRun_both (input : Bytes) (h : Alike s t) : (expandRun input s).Both Alike (expandRun input t) := by
  unfold expandRun
  split
  · exact .raised h
  · exact .ok h

theorem packRun_both (input : Bytes) (h : Alike s t) : (packRun input s).Both Alike (packRun input t) := by
  unfold packRun
  split
  · exact .raised h
  · exact .ok h

theorem wcipherRun_both (seed : Half) (input : Bytes) (h : Alike s t) :
    (wcipherRun seed input s).Both Alike (wcipherRun seed input t) := by
  unfold wcipherRun
  split
  · exact .raised h
  · exact .ok (h.putWreg _ _)

theorem icksumRun_both (input : Bytes) (h : Alike s t) : (icksumRun input s).Both Alike (icksumRun input t) := by
  unfold icksumRun
  split
  · exact .raised h
  · exact .ok (h.putImageSum _)

theorem dump2osRun_both (t1 : Vector Word 15) (t2 : Vector Word 14) (dump : Bytes) (h : Alike s t) :
    (dump2osRun t1 t2 dump s).Both Alike (dump2osRun t1 t2 dump t) := by
  unfold dump2osRun
  dsimp only
  split
  · exact .raised h
  split
  · exact .raised h
  split
  · exact .raised h
  split
  · exact .raised ((h.putWofs _).putImageSum _)
  · exact .ok ((h.putWofs _).putImageSum _)

theorem os2dumpRun_both (t1 : Vector Word 15) (t2 : Vector Word 14) (image : Bytes) (h : Alike s t) :
    (os2dumpRun t1 t2 image s).Both Alike (os2dumpRun t1 t2 image t) := by
  unfold os2dumpRun
  dsimp only
  split
  · exact .raised h
  · exact .ok ((h.putImageSum _).putWofs _)

theorem frameIn_both (input : Bytes) (h : Alike s t) : (frameIn input s).Both Alike (frameIn input t) := by
  unfold frameIn
  dsimp only
  split
  · exact .ok (h.putFrame _)
  · exact .raised (h.putFrame _)

theorem pagedecRun_both (key : Vector Byte 13) (payload : Bytes) (h : Alike s t) :
    (pagedecRun key payload s).Both Alike (pagedecRun key payload t) := by
  unfold pagedecRun
  rw [h.cfg]
  dsimp only
  split
  · exact .raised h
  split
  · exact .raised ((h.putTki _).putCk _)
  · exact .ok ((h.putTki _).putCk _)

theorem pageencRun_both (key : Vector Byte 13) (pidx : Half) (data : Bytes) (h : Alike s t) :
    (pageencRun key pidx data s).Both Alike (pageencRun key pidx data t) := by
  unfold pageencRun
  rw [h.cfg]
  split
  · exact .raised h
  · exact .ok (h.putPage key pidx data)

theorem msgbuildRun_both (model cmd : Byte) (payload : Bytes) (h : Alike s t) :
    (msgbuildRun model cmd payload s).Both Alike (msgbuildRun model cmd payload t) := by
  unfold msgbuildRun
  split
  · exact .raised h
  split
  · exact .raised h
  · exact .ok h

theorem checkFamily_both (fam : Family) (h : Alike s t) : (checkFamily fam s).Both Alike (checkFamily fam t) := by
  unfold checkFamily
  rw [h.family]
  split
  · exact .ok (h.update (f := fun u => { u with dp := { u.dp with family := fam } }) fun _ => rfl)
  all_goals
    split
    · exact .ok h
    · exact .raised h

theorem checkContiguous_both (a : Addr) (h : Alike s t) :
    (checkContiguous a s).Both Alike (checkContiguous a t) := by
  unfold checkContiguous
  rw [h.lastAddr]
  split
  · exact .ok h
  split
  · exact .ok h
  · exact .raised h

theorem dumpPage_both (key : Vector Byte 13) (m : Bytes) (h : Alike s t) :
    (dumpPage key m s).Both Alike (dumpPage key m t) :=
  (checkFamily_both _ h).andThen id fun _ _ _ h => (pagedecRun_both key _ h).andThen id fun _ _ _ h =>
    (checkContiguous_both _ h).andThen id fun _ _ _ h => .ok (h.acceptPage _)

theorem dumpMsgs_both (key : Vector Byte 13) (msgs : List Bytes) (h : Alike s t) :
    (dumpMsgs key msgs s).Both Alike (dumpMsgs key msgs t) := by
  induction msgs generalizing s t with
  | nil => exact .ok h
  | cons m rest ih =>
    simp only [dumpMsgs]
    split
    · exact ih h
    · exact (dumpPage_both key m h).andThen id fun _ _ _ h => (ih h).andThen id fun _ _ _ h => .ok h

/-- No sector's data depends on what `WREG` held before it was seeded (R142, R224). -/
theorem wundoFrom_fst (seedOf : SeedOf) (n a : Nat) (d : Bytes) (w w' : Half) :
    (wundoFrom seedOf n a d w).1 = (wundoFrom seedOf n a d w').1 := by
  cases n <;> rfl

theorem dumpFinish_both (d : Bytes) (h : Alike s t) : (dumpFinish d s).Both Alike (dumpFinish d t) := by
  unfold dumpFinish
  rw [h.family]
  split
  · exact .raised h
  · rw [h.dbase]; exact .ok h
  · rw [h.dbase, h.cfg]
    simp only [wundo, wundoFrom_fst _ _ _ _ s.dp.wreg t.dp.wreg]
    exact .ok (h.putWreg _ _)

theorem syx2dumpRun_both (key : Vector Byte 13) (stream : Bytes) (h : Alike s t) :
    (syx2dumpRun key stream s).Both Alike (syx2dumpRun key stream t) :=
  (frameIn_both stream h).andThen id fun msgs _ _ h => (dumpMsgs_both key msgs h).andThen id fun d _ _ h =>
    dumpFinish_both d h

theorem pageMsgs_alike (key : Vector Byte 13) (model : Byte) (n a : Nat) (c : Bytes) (h : Alike s t) :
    (pageMsgs key model n a c s).1 = (pageMsgs key model n a c t).1 ∧
      Alike (pageMsgs key model n a c s).2 (pageMsgs key model n a c t).2 := by
  induction n generalizing a c s t with
  | zero => exact ⟨rfl, h⟩
  | succ n ih =>
    obtain ⟨hmsgs, hlast⟩ := ih (a + Config.pageSize) (c.drop Config.pageSize)
      (h.putPage key (pidxOfAddr a) (c.take Config.pageSize))
    exact ⟨by simp only [pageMsgs, hmsgs, h.cfg], hlast⟩

theorem sectorMsgs_alike (key : Vector Byte 13) (model : Byte) (n a : Nat) (d : Bytes) (h : Alike s t) :
    (sectorMsgs key model n a d s).1 = (sectorMsgs key model n a d t).1 ∧
      Alike (sectorMsgs key model n a d s).2 (sectorMsgs key model n a d t).2 := by
  induction n generalizing a d s t with
  | zero => exact ⟨rfl, h⟩
  | succ n ih =>
    simp only [sectorMsgs, h.cfg]
    obtain ⟨hpages, hpage⟩ := pageMsgs_alike key model 16 a
      (wcipher (t.cfg.seedOf.at (BitVec.ofNat 24 a)) (d.take Config.sectorSize))
      (h.putWreg (wregAfter (t.cfg.seedOf.at (BitVec.ofNat 24 a)) (d.take Config.sectorSize)) _)
    obtain ⟨hrest, hlast⟩ := ih (a + Config.sectorSize) (d.drop Config.sectorSize) hpage
    exact ⟨by rw [hpages, hrest], hlast⟩

theorem dump2syxRun_both (key : Vector Byte 13) (base : Addr) (model : Byte) (dump : Bytes) (h : Alike s t) :
    (dump2syxRun key base model dump s).Both Alike (dump2syxRun key base model dump t) := by
  unfold dump2syxRun
  rw [h.cfg]
  dsimp only
  split
  · exact .raised h
  split
  · exact .raised h
  split
  · exact .raised h
  split
  · exact .raised h
  · obtain ⟨hout, hlast⟩ := sectorMsgs_alike key model ((padDump dump).length / Config.sectorSize) base.toNat
      (padDump dump) h
    rw [hout]
    exact .ok hlast

end Conversions

/-! ## The parts of a channel operation -/

section ChannelOperations

variable {s t : State}

/-- Opening a channel hides which one was open before. -/
theorem openPort_andThen_both {α : Type} (c : Byte) {k k' : Unit → State → Run α} (h : Alike s t)
    (hk : ∀ s t, Wired s t → (k () s).Both Alike (k' () t)) :
    ((openPort c s).andThen k).Both Alike ((openPort c t).andThen k') := by
  have hopen : Wired { s with openChan := some c, trace := s.trace ++ [.opened c] }
      { t with openChan := some c, trace := t.trace ++ [.opened c] } :=
    (h.update (f := fun u => { u with openChan := some c, trace := u.trace ++ [.opened c] }) fun _ => rfl).wired rfl
  have hscript : scriptOf c s.channels = scriptOf c t.channels := congrArg (scriptOf c) h.channels
  unfold openPort
  rw [hscript]
  split
  · exact .raised h
  · exact hk _ _ hopen

theorem receive_seen (c : TimeoutClass) (skip : Bytes → Bool) (s : State) :
    (s.receive c skip).1 = (s.seen.receive c skip).1 ∧ (s.receive c skip).2.seen = (s.seen.receive c skip).2.seen := by
  have hport : s.seen.openChan = s.openChan := rfl
  simp only [State.receive, hport]
  cases s.openChan <;> exact ⟨rfl, rfl⟩

/-- Two waits on the same script end with the same message. -/
theorem receive_wired (c : TimeoutClass) (skip : Bytes → Bool) (h : Wired s t) :
    ∃ m u v, s.receive c skip = (m, u) ∧ t.receive c skip = (m, v) ∧ Wired u v := by
  have hmsg : (s.receive c skip).1 = (t.receive c skip).1 := by
    rw [(receive_seen c skip s).1, (receive_seen c skip t).1, h.seen]
  exact ⟨(s.receive c skip).1, (s.receive c skip).2, (t.receive c skip).2, rfl, Prod.ext hmsg.symm rfl,
    h.update (f := fun u => (u.receive c skip).2) fun u => (receive_seen c skip u).2⟩

theorem probeRun_both (req : Bytes) (c : Byte) (h : Alike s t) :
    (probeRun req c s).Both Alike (probeRun req c t) := by
  refine openPort_andThen_both c h fun s t h => ?_
  obtain ⟨m, u, v, hs, ht, huv⟩ := receive_wired .short (probeSkips req) ((h.setSeq .probeWait).sendMsg req)
  simp only [hs, ht]
  cases m with
  | none => exact .raised huv.alike
  | some m => exact .ok huv.alike

theorem doneWith_both (o : Output) (h : Alike s t) : (doneWith o s).Both Alike (doneWith o t) :=
  .ok (h.setSeq .done)

theorem detectFrom_both (req cands : Bytes) (h : Alike s t) :
    (detectFrom req cands s).Both Alike (detectFrom req cands t) := by
  induction cands generalizing s t with
  | nil => exact .raised h
  | cons c rest ih =>
    have hprobe := probeRun_both req c h
    simp only [detectFrom]
    generalize probeRun req c s = r at hprobe ⊢
    generalize probeRun req c t = r' at hprobe ⊢
    cases hprobe with
    | ok h => exact doneWith_both _ h
    | raised h => exact ih h.closePort

theorem putTrigger_wired (key : Vector Byte 13) (m : Bytes) (h : Wired s t) :
    Wired (s.putTrigger key m) (t.putTrigger key m) := by
  unfold State.putTrigger
  split
  · exact h.putTki _
  · exact h

theorem putAck_wired (key : Vector Byte 13) (payload : Bytes) (h : Wired s t) :
    Wired (s.putAck key payload) (t.putAck key payload) := by
  unfold State.putAck
  rw [h.alike.cfg]
  split
  · exact h.putTki _
  · exact h

theorem acceptAck_both (key : Vector Byte 13) (m : Bytes) (h : Wired s t) :
    (acceptAck key m s).Both Wired (acceptAck key m t) := by
  unfold acceptAck
  rw [h.alike.cfg]
  dsimp only
  split
  · exact .raised h
  split
  · exact .raised h
  split
  · exact .raised (putAck_wired key _ h)
  · exact .ok ((putAck_wired key _ h).setSeq .upSend)

theorem waitAck_both (key : Vector Byte 13) (c : TimeoutClass) (h : Wired s t) :
    (waitAck key c s).Both Wired (waitAck key c t) := by
  obtain ⟨m, u, v, hs, ht, huv⟩ := receive_wired c ackSkips h
  simp only [waitAck, hs, ht]
  cases m with
  | none => exact .raised huv
  | some m => exact acceptAck_both key m huv

theorem uploadFrom_both (key : Vector Byte 13) (first : Bool) (msgs : List Bytes) (h : Wired s t) :
    (uploadFrom key first msgs s).Both Wired (uploadFrom key first msgs t) := by
  induction msgs generalizing first s t with
  | nil => exact .ok h
  | cons m rest ih =>
    have hsent := putTrigger_wired key m ((h.setSeq .upSend).sendMsg m)
    simp only [uploadFrom]
    split
    · exact (waitAck_both key _ (hsent.setSeq .upWaitAck)).andThen id fun r _ _ h => ih _ (h.addReport r)
    · exact ih _ hsent

theorem uploadRun_both (key : Vector Byte 13) (c : Byte) (stream : Bytes) (h : Alike s t) :
    (uploadRun key c stream s).Both Alike (uploadRun key c stream t) := by
  refine (frameIn_both stream h).andThen id fun msgs _ _ h => openPort_andThen_both c h fun _ _ h =>
    (uploadFrom_both key true msgs h).andThen Wired.alike fun _ u v h => ?_
  rw [h.alike.reports]
  exact doneWith_both _ h.alike

theorem acceptReply_both (key : Vector Byte 13) (pidx : Half) (m : Bytes) (h : Wired s t) :
    (acceptReply key pidx m s).Both Wired (acceptReply key pidx m t) := by
  unfold acceptReply
  dsimp only
  split
  · exact .raised h
  split
  · exact .raised h
  · have hpage := (pagedecRun_both key (payloadOf m) h.alike).wired (pagedecRun_quiet key _ s)
      (pagedecRun_quiet key _ t) h.openChan
    refine hpage.andThen id fun plain u v h => ?_
    split
    · exact .raised h
    · exact .ok h

theorem waitPage_both (key : Vector Byte 13) (pidx : Half) (c : TimeoutClass) (h : Wired s t) :
    (waitPage key pidx c s).Both Wired (waitPage key pidx c t) := by
  obtain ⟨m, u, v, hs, ht, huv⟩ := receive_wired c pageSkips h
  simp only [waitPage, hs, ht]
  cases m with
  | none => exact .raised huv
  | some m => exact acceptReply_both key pidx m huv

theorem retrieveFrom_both (key : Vector Byte 13) (rr : ReadRequest) (model : Byte) (start : Addr) (n : Nat)
    (h : Wired s t) : (retrieveFrom key rr model start n s).Both Wired (retrieveFrom key rr model start n t) := by
  induction n generalizing s t with
  | zero => exact .ok h
  | succ n ih =>
    simp only [retrieveFrom, retrievePidx, h.alike.page]
    exact (waitPage_both key _ _ (((h.setSeq .rtSend).sendMsg _).setSeq .rtWait)).andThen id fun r _ _ h =>
      ih (h.addReply r)

theorem retrieveRun_both (key : Vector Byte 13) (rr : ReadRequest) (c : Byte) (start count : Addr) (model : Byte)
    (h : Alike s t) :
    (retrieveRun key rr c start count model s).Both Alike (retrieveRun key rr c start count model t) := by
  unfold retrieveRun
  rw [h.cfg]
  dsimp only
  split
  · exact .raised h
  split
  · exact .raised h
  split
  · exact .raised h
  · refine openPort_andThen_both c h fun _ _ h =>
      (retrieveFrom_both key rr model start _ h).andThen Wired.alike fun _ u v h => ?_
    rw [h.alike.outBuf]
    exact doneWith_both _ h.alike

theorem displayRun_both (key : Vector Byte 13) (c model : Byte) (label : Label) (h : Alike s t) :
    (displayRun key c model label s).Both Alike (displayRun key c model label t) := by
  unfold displayRun
  split
  · exact .raised h
  · refine openPort_andThen_both c h fun s t h => ?_
    rw [h.alike.cfg]
    exact doneWith_both _ ((((h.alike.setSeq .dispSend).putCk _).putTki _).sendMsg _)

end ChannelOperations

/-! ## Two ends that the host cannot tell apart -/

/-- The results are equal, and so is what is left of the scripts. -/
def SameEnd (s t : State) : Prop := s.result = t.result ∧ s.channels = t.channels

theorem finish_sameEnd {r r' : Run Output} (h : r.Both Alike r') : SameEnd (finish r) (finish r') := by
  cases h with
  | ok h => exact ⟨by simp [h.events], h.channels⟩
  | raised h => exact ⟨by simp [h.events], h.channels⟩

theorem finishChannel_sameEnd {r r' : Run Output} (h : r.Both Alike r') :
    SameEnd (finishChannel r) (finishChannel r') := by
  cases h with
  | ok h => exact ⟨by simp [h.events], by simp [h.channels]⟩
  | raised h => exact ⟨by simp [h.events], by simp [h.channels]⟩

section Configured

variable {s t : State}

theorem refuse_sameEnd (hchans : s.channels = t.channels) : SameEnd s.refuse t.refuse := ⟨rfl, hchans⟩

theorem withKey_sameEnd {run run' : Vector Byte 13 → State} (hcfg : s.cfg = t.cfg) (hchans : s.channels = t.channels)
    (h : ∀ key, SameEnd (run key) (run' key)) : SameEnd (s.withKey run) (t.withKey run') := by
  unfold State.withKey
  rw [hcfg]
  split
  · exact refuse_sameEnd hchans
  · exact h _

theorem withTables_sameEnd {run run' : Vector Word 15 → Vector Word 14 → State} (hcfg : s.cfg = t.cfg)
    (hchans : s.channels = t.channels) (h : ∀ t1 t2, SameEnd (run t1 t2) (run' t1 t2)) :
    SameEnd (s.withTables run) (t.withTables run') := by
  unfold State.withTables
  rw [hcfg]
  split
  · exact h _ _
  · exact refuse_sameEnd hchans

theorem withProbeRequest_sameEnd {run run' : Bytes → State} (hcfg : s.cfg = t.cfg)
    (hchans : s.channels = t.channels) (h : ∀ req, SameEnd (run req) (run' req)) :
    SameEnd (s.withProbeRequest run) (t.withProbeRequest run') := by
  unfold State.withProbeRequest
  rw [hcfg]
  split
  · exact refuse_sameEnd hchans
  · exact h _

theorem withReadRequest_sameEnd {run run' : ReadRequest → State} (hcfg : s.cfg = t.cfg)
    (hchans : s.channels = t.channels) (h : ∀ rr, SameEnd (run rr) (run' rr)) :
    SameEnd (s.withReadRequest run) (t.withReadRequest run') := by
  unfold State.withReadRequest
  rw [hcfg]
  split
  · exact refuse_sameEnd hchans
  · exact h _

end Configured

/-- The state `r` with the configuration, `IN` and the scripts of `s`: all that two starts have to share. -/
def State.sharing (s r : State) : State := { r with cfg := s.cfg, inBuf := s.inBuf, channels := s.channels }

theorem sharing_eq {s t : State} (hcfg : s.cfg = t.cfg) (hin : s.inBuf = t.inBuf)
    (hchans : s.channels = t.channels) : s.sharing t = t := by
  simp only [State.sharing, hcfg, hin, hchans]

/-- An operation's start at `s` and at a state that shares with `s` what an operation may depend on. -/
theorem begin_sharing_alike (f : ParamRegs → ParamRegs) (s r : State) :
    Alike (s.latch f).begin ((s.sharing r).latch f).begin := begin_alike rfl rfl

/-- Each of the 23 operations ends alike wherever it finds the same configuration, `IN` and scripts. -/
theorem exec_sameEnd (i : Instr) (hi : isConversion i = true ∨ isChannelOp i = true) (s r : State) :
    ∃ t t', exec i s = .next t ∧ exec i (s.sharing r) = .next t' ∧ SameEnd t t' := by
  have hb := begin_sharing_alike (latched i) s r
  cases i with
  | expand => exact ⟨_, _, rfl, rfl, finish_sameEnd (andThen_onlyOut_both (expandRun_both _ hb))⟩
  | pack => exact ⟨_, _, rfl, rfl, finish_sameEnd (andThen_onlyOut_both (packRun_both _ hb))⟩
  | tcipher =>
    exact ⟨_, _, rfl, rfl, withKey_sameEnd rfl rfl fun key => finish_sameEnd <|
      onlyOut_both _ (hb.putTki (tkiAfter key s.inBuf))⟩
  | wcipher seed => exact ⟨_, _, rfl, rfl, finish_sameEnd (andThen_onlyOut_both (wcipherRun_both seed _ hb))⟩
  | ckupd b c =>
    exact ⟨_, _, rfl, rfl, finish_sameEnd <|
      onlyOut_both _ (hb.putCk (ckByte s.cfg.ckBitOrder b c))⟩
  | ckpage =>
    exact ⟨_, _, rfl, rfl, finish_sameEnd <|
      onlyOut_both _ (hb.putCk (ckAfter s.cfg.ckBitOrder s.inBuf))⟩
  | wordcode w o =>
    exact ⟨_, _, rfl, rfl, withTables_sameEnd rfl rfl fun _ _ => finish_sameEnd (onlyOut_both _ hb)⟩
  | icksum => exact ⟨_, _, rfl, rfl, finish_sameEnd (andThen_onlyOut_both (icksumRun_both _ hb))⟩
  | dump2os =>
    exact ⟨_, _, rfl, rfl, withTables_sameEnd rfl rfl fun t1 t2 =>
      finish_sameEnd (andThen_onlyOut_both (dump2osRun_both t1 t2 _ hb))⟩
  | os2dump =>
    exact ⟨_, _, rfl, rfl, withTables_sameEnd rfl rfl fun t1 t2 =>
      finish_sameEnd (andThen_onlyOut_both (os2dumpRun_both t1 t2 _ hb))⟩
  | frame =>
    exact ⟨_, _, rfl, rfl, finish_sameEnd <| (frameIn_both _ hb).andThen id fun _ _ _ h => onlyOut_both _ h⟩
  | pagedec =>
    exact ⟨_, _, rfl, rfl, withKey_sameEnd rfl rfl fun key =>
      finish_sameEnd (andThen_onlyOut_both (pagedecRun_both key _ hb))⟩
  | pageenc p =>
    exact ⟨_, _, rfl, rfl, withKey_sameEnd rfl rfl fun key =>
      finish_sameEnd (andThen_onlyOut_both (pageencRun_both key p _ hb))⟩
  | msgbuild m c => exact ⟨_, _, rfl, rfl, finish_sameEnd (andThen_onlyOut_both (msgbuildRun_both m c _ hb))⟩
  | syx2dump =>
    exact ⟨_, _, rfl, rfl, withKey_sameEnd rfl rfl fun key => finish_sameEnd (syx2dumpRun_both key _ hb)⟩
  | dump2syx b m =>
    exact ⟨_, _, rfl, rfl, withKey_sameEnd rfl rfl fun key =>
      finish_sameEnd (andThen_onlyOut_both (dump2syxRun_both key b m _ hb))⟩
  | syx2os =>
    exact ⟨_, _, rfl, rfl, withKey_sameEnd rfl rfl fun key => withTables_sameEnd rfl rfl fun t1 t2 =>
      finish_sameEnd <| (syx2dumpRun_both key _ hb).andThen id fun _ _ _ h =>
        (dump2osRun_both t1 t2 _ h).andThen id fun _ _ _ h => .ok h⟩
  | os2syx b m =>
    exact ⟨_, _, rfl, rfl, withKey_sameEnd rfl rfl fun key => withTables_sameEnd rfl rfl fun t1 t2 =>
      finish_sameEnd <| (os2dumpRun_both t1 t2 _ hb).andThen id fun _ _ _ h =>
        andThen_onlyOut_both (dump2syxRun_both key b m _ h)⟩
  | probe c =>
    exact ⟨_, _, rfl, rfl, withProbeRequest_sameEnd rfl rfl fun req => finishChannel_sameEnd <|
      (probeRun_both req c hb).andThen id fun _ _ _ h => doneWith_both _ h⟩
  | detect cs =>
    exact ⟨_, _, rfl, rfl, withProbeRequest_sameEnd rfl rfl fun req =>
      finishChannel_sameEnd (detectFrom_both req cs hb)⟩
  | upload c =>
    exact ⟨_, _, rfl, rfl, withKey_sameEnd rfl rfl fun key => finishChannel_sameEnd (uploadRun_both key c _ hb)⟩
  | retrieve c a n m =>
    exact ⟨_, _, rfl, rfl, withKey_sameEnd rfl rfl fun key => withReadRequest_sameEnd rfl rfl fun rr =>
      finishChannel_sameEnd (retrieveRun_both key rr c a n m hb)⟩
  | display c m l =>
    exact ⟨_, _, rfl, rfl, withKey_sameEnd rfl rfl fun key => finishChannel_sameEnd (displayRun_both key c m l hb)⟩
  | _ => simp [isConversion, isChannelOp] at hi

/-- Settles O55: the operation runs in lock step from the two states, by `exec_sameEnd`. -/
theorem operationsKeepNoState : Obligations.OperationsKeepNoState := by
  intro i s s' t t' hi hcfg hin hchans ht ht'
  obtain ⟨u, u', hu, hu', hend⟩ := exec_sameEnd i hi s s'
  rw [sharing_eq hcfg hin hchans] at hu'
  cases hu.symm.trans ht
  cases hu'.symm.trans ht'
  exact hend

end Sys2Proof.Machine
end

section
/-! What spec/20_memory.md says of the buffers and of the port: the read laws of `append` (R52), and the end of a
conversion, which does not use the channel (R65). -/

namespace Sys2Proof.Machine

/-! ## Buffers -/

theorem memRead_append_left {buf : Bytes} {a n : Nat} (v : Bytes) (h : a + n ≤ buf.length) :
    memRead (append buf v) a n = memRead buf a n := by
  have hlonger : a + n ≤ (append buf v).length := by simp; omega
  have hstart : a ≤ buf.length := by omega
  have hrest : n ≤ (buf.drop a).length := by simp; omega
  rw [memRead_ok h, memRead_ok hlonger, append_eq_append, List.drop_append_of_le_length hstart,
    List.take_append_of_le_length hrest]

theorem memRead_append_right (buf v : Bytes) : memRead (append buf v) buf.length v.length = .ok v := by
  have hend : buf.length + v.length ≤ (append buf v).length := by simp
  rw [memRead_ok hend]
  simp

/-- Settles O60, from the read laws of `append` and the canonical form of every buffer's cells. -/
theorem appendKeepsBuffer : Obligations.AppendKeepsBuffer := fun buf v =>
  ⟨append_eq_append buf v, memRead_append_right buf v, fun _ _ h => memRead_append_left v h,
    fun _ _ h => memRead_past h, cells_wf buf⟩

/-! ## How a conversion ends -/

theorem isWireMessage_eq_false_of_isConversion {i : Instr} (h : isConversion i = true) :
    Laws.isWireMessage i = false := by
  cases i with
  | msgProbe | msgPageWrite | msgAck | msgPageRead => simp [isConversion] at h
  | _ => rfl

theorem Confined.channels {s t : State} (h : Confined s t) : t.channels = s.channels := by rw [h.outside]

theorem Confined.trace {s t : State} (h : Confined s t) : t.trace = s.trace := by rw [h.outside]

/-- `t` is an end of an operation that began with the channels, the port and the trace of `s` and did not use them: OK
with `SEQ` at `DONE`, or an error with `SEQ` at `FAILED`, and that write is all the trace gained (R28, R314). -/
structure EndsOffPort (s t : State) : Prop where
  channels : t.channels = s.channels
  openChan : t.openChan = s.openChan
  ending : ((∃ o, t.returned o) ∧ t.dp.seq = .done ∧ t.trace = s.trace ++ [.seq .done]) ∨
    (t.errKind ≠ none ∧ t.dp.seq = .failed ∧ t.trace = s.trace ++ [.seq .failed])

theorem finish_endsOffPort {s : State} {r : Run Output} (hr : Confined s r.last) : EndsOffPort s (finish r) := by
  have hchannels := hr.channels
  have hport := hr.openChan
  have htrace := hr.trace
  cases r with
  | ok o u =>
    have hseq : (finish (.ok o u)).trace = s.trace ++ [.seq .done] := by simp [← htrace]
    exact ⟨hchannels, hport, .inl ⟨⟨o, returned_returnOk _ o⟩, rfl, hseq⟩⟩
  | raised e u =>
    have hseq : (finish (.raised e u)).trace = s.trace ++ [.seq .failed] := by simp [← htrace]
    exact ⟨hchannels, hport, .inr ⟨by simp, rfl, hseq⟩⟩

/-- Settles O54, by the inversion of `exec`: a conversion is refused, or ends by `finish` after it wrote datapath
registers only. -/
theorem conversionsTouchNoChannel : Obligations.ConversionsTouchNoChannel := by
  intro i s t hi h
  cases execEnds_of_next h with
  | refused => exact ⟨rfl, rfl, .inr (.inr ⟨rfl, rfl, rfl⟩)⟩
  | converted _ hr =>
    obtain ⟨hchannels, hport, hending⟩ := finish_endsOffPort hr
    exact ⟨hchannels, hport, hending.imp_right .inl⟩
  | channeled hc _ _ => simp [isConversion_eq_false_of_isChannelOp hc] at hi
  | delivered _ hm => simp [isWireMessage_eq_false_of_isConversion hi] at hm

end Sys2Proof.Machine
end

section
/-! The encodings of spec/30_encoding.md read back: the fields of a descriptor (R110), the reserved codes (R111) and the
wire messages (R80 to R82). -/

namespace Sys2Proof

/-! ## The fields of a descriptor -/

@[simp] theorem le16_put16 (v : Half) : le16 (byteOf 0 v) (byteOf 1 v) = v :=
  BitVec.extractLsb'_append_extractLsb' (w := 8) (len := 8)

@[simp] theorem le24_put24 (v : Addr) : le24 (byteOf 0 v) (byteOf 1 v) (byteOf 2 v) = v := by
  have hhigh : byteOf 2 v ++ byteOf 1 v = v.extractLsb' 8 16 :=
    BitVec.extractLsb'_append_extractLsb'_eq_extractLsb' (start₁ := 8) rfl
  rw [le24, hhigh]
  exact BitVec.extractLsb'_append_extractLsb' (w := 16) (len := 8)

@[simp] theorem le32_put32 (v : Word) : le32 (byteOf 0 v) (byteOf 1 v) (byteOf 2 v) (byteOf 3 v) = v := by
  have htop : byteOf 3 v ++ byteOf 2 v = v.extractLsb' 16 16 :=
    BitVec.extractLsb'_append_extractLsb'_eq_extractLsb' (start₁ := 16) rfl
  have hhigh : v.extractLsb' 16 16 ++ byteOf 1 v = v.extractLsb' 8 24 :=
    BitVec.extractLsb'_append_extractLsb'_eq_extractLsb' (start₁ := 8) rfl
  rw [le32, htop, hhigh]
  exact BitVec.extractLsb'_append_extractLsb' (w := 24) (len := 8)

theorem takeExactly_length (bs : Bytes) : takeExactly bs.length bs = some bs := by
  induction bs with
  | nil => rfl
  | cons b rest ih => simp only [List.length_cons, takeExactly, ih, Option.map_some]

theorem takeExactly_of_lt {n : Nat} {bs : Bytes} (h : bs.length < n) : takeExactly n bs = none := by
  induction n generalizing bs with
  | zero => cases h
  | succ n ih =>
    cases bs with
    | nil => rfl
    | cons b rest => simp only [takeExactly, ih (Nat.lt_of_succ_lt_succ h), Option.map_none]

/-! ## The reserved codes -/

/-- The codes of R111: `0x00`, and all above the operations'. -/
def IsReservedCode (opc : Byte) : Prop := opc = 0 ∨ 0x18 ≤ opc.toNat

/-- A reserved code has no operands: whatever follows it, it is read as its row. -/
theorem decodeOperands_reserved {opc : Byte} (h : IsReservedCode opc) (ops : Bytes) :
    decodeOperands opc ops = some (decodeReserved opc) := by
  obtain rfl | h := h
  · rfl
  · unfold decodeOperands
    split
    case h_36 => rfl
    all_goals omega

theorem decodeDescriptor_reserved {opc : Byte} (h : IsReservedCode opc) (ops : Bytes) :
    decodeDescriptor (opc :: ops) = .ok (decodeReserved opc) := by
  simp only [decodeDescriptor, decodeOperands_reserved h]

/-- Low bits set in a reserved code leave it one. -/
theorem decodeDescriptor_reserved_or {high : Byte} (h : 0x18 ≤ high.toNat) (low : Byte) :
    decodeDescriptor [high ||| low] = .ok (decodeReserved (high ||| low)) :=
  decodeDescriptor_reserved (.inr (Nat.le_trans h (Machine.le_toNat_or high low))) []

/-! A reserved row fixes the high bits of the code; its operand is the low ones. -/

theorem reserved18_code (low : BitVec 3) : 0b00011#5 ++ low = 0x18 ||| low.setWidth 8 := by revert low; decide
theorem reserved20_code (low : BitVec 5) : 0b001#3 ++ low = 0x20 ||| low.setWidth 8 := by revert low; decide
theorem reserved40_code (low : BitVec 6) : 0b01#2 ++ low = 0x40 ||| low.setWidth 8 := by revert low; decide
theorem reserved80_code (low : BitVec 7) : 0b1#1 ++ low = 0x80 ||| low.setWidth 8 := by revert low; decide

/-! ## Descriptors -/

/-- The bytes of a message row begin like one, those of every other instruction do not. -/
theorem isMessageRow_encode (i : Instr) : isMessageRow (encode i) = Laws.isWireMessage i := by
  cases i with
  | detect cands => exact Laws.EncodingKind.detect cands
  | msgProbe m p => exact Laws.EncodingKind.msgProbe m p
  | msgPageWrite m p => exact Laws.EncodingKind.msgPageWrite m p
  | msgAck m p => exact Laws.EncodingKind.msgAck m p
  | msgPageRead m p => exact Laws.EncodingKind.msgPageRead m p
  | _ => rfl

/-- A descriptor whose operands are read is read as the instruction they make. -/
theorem decodeDescriptor_cons {opc : Byte} {ops : Bytes} {i : Instr} (h : decodeOperands opc ops = some i) :
    decodeDescriptor (opc :: ops) = .ok i := by
  simp only [decodeDescriptor, h]

/-- The count byte of `DETECT` holds the length of every list it bounds. -/
theorem decodeOperands_detect {cands : Bytes} (h : cands.length ≤ 255) :
    decodeOperands 0x14 (BitVec.ofNat 8 cands.length :: cands) = some (.detect cands) := by
  have hcount : (BitVec.ofNat 8 cands.length).toNat = cands.length := by
    rw [BitVec.toNat_ofNat, Nat.mod_eq_of_lt (by omega)]
  calc decodeOperands 0x14 (BitVec.ofNat 8 cands.length :: cands)
      = (takeExactly (BitVec.ofNat 8 cands.length).toNat cands).map .detect := rfl
    _ = some (.detect cands) := by rw [hcount, takeExactly_length, Option.map_some]

/-- Every operand of every descriptor is read back. -/
theorem decodeDescriptor_encode {i : Instr} (hwf : i.wf = true) (hi : Laws.isWireMessage i = false) :
    decodeDescriptor (encode i) = .ok i := by
  cases i with
  | wcipher seed => simp [encode, put16, decodeDescriptor, decodeOperands]
  | wordcode word woff => simp [encode, put32, decodeDescriptor, decodeOperands]
  | pageenc pidx => simp [encode, put16, decodeDescriptor, decodeOperands]
  | dump2syx base model => simp [encode, put24, decodeDescriptor, decodeOperands]
  | os2syx base model => simp [encode, put24, decodeDescriptor, decodeOperands]
  | retrieve chan start count model => simp [encode, put24, decodeDescriptor, decodeOperands]
  | detect cands => exact decodeDescriptor_cons (decodeOperands_detect (of_decide_eq_true hwf))
  | reserved00 => rfl
  | reserved18 low =>
    rw [encode, reserved18_code, decodeDescriptor_reserved_or (by decide), Machine.decodeReserved_reserved18]
  | reserved20 low =>
    rw [encode, reserved20_code, decodeDescriptor_reserved_or (by decide), Machine.decodeReserved_reserved20]
  | reserved40 low =>
    rw [encode, reserved40_code, decodeDescriptor_reserved_or (by decide), Machine.decodeReserved_reserved40]
  | reserved80 low =>
    rw [encode, reserved80_code, decodeDescriptor_reserved_or (by decide), Machine.decodeReserved_reserved80]
  | msgProbe | msgPageWrite | msgAck | msgPageRead => cases hi
  | _ => rfl

/-! ## Wire messages -/

/-- The end byte is no data byte (R81), so the payload ends there and not before. -/
theorem takePayload_append_eox {payload : Bytes} (h : payload.all isDataByte = true) :
    takePayload (payload ++ [Config.eox]) = some payload := by
  induction payload with
  | nil => rfl
  | cons b rest ih =>
    obtain ⟨hb, hrest⟩ : isDataByte b = true ∧ rest.all isDataByte = true := by simpa using h
    have hne : b ≠ Config.eox := by rintro rfl; cases hb
    simp only [List.cons_append, takePayload, if_neg hne, if_pos hb, ih hrest, Option.map_some]

/-- A message with data bytes in its body is read as the row of its command. -/
theorem decodeMessage_messageBytes {model cmd : Byte} {payload : Bytes} {i : Instr}
    (hbody : isMessageBody model payload = true) (hrow : messageOf model cmd payload = some i) :
    decodeMessage (messageBytes model cmd payload) = .ok i := by
  obtain ⟨hmodel, hpayload⟩ : isDataByte model = true ∧ payload.all isDataByte = true := by
    simpa only [isMessageBody, Bool.and_eq_true] using hbody
  simp only [messageBytes, Config.manuf, List.cons_append, List.nil_append, decodeMessage,
    takePayload_append_eox hpayload, hrow, hmodel, and_self, if_true]

/-- Every message of the map is read back. -/
theorem decodeMessage_encode {i : Instr} (hwf : i.wf = true) (hi : Laws.isWireMessage i = true) :
    decodeMessage (encode i) = .ok i :=
  match i, hi with
  | .msgProbe _ _, _ => decodeMessage_messageBytes hwf rfl
  | .msgPageWrite _ _, _ => decodeMessage_messageBytes hwf rfl
  | .msgAck _ _, _ => decodeMessage_messageBytes hwf rfl
  | .msgPageRead _ _, _ => decodeMessage_messageBytes hwf rfl

/-- Settles O1: the bytes say which of the two encodings they are in, and each encoding reads its own back. -/
theorem decodeEncodeRoundTrip : Obligations.DecodeEncodeRoundTrip := by
  intro i hwf
  unfold decode
  rw [isMessageRow_encode]
  cases hi : Laws.isWireMessage i with
  | true => exact decodeMessage_encode hwf hi
  | false => exact decodeDescriptor_encode hwf hi

/-- Settles O2, descriptor by descriptor. -/
theorem writtenDescriptorsDecode : Obligations.WrittenDescriptorsDecode :=
  ⟨rfl, rfl, rfl, rfl, rfl, rfl, rfl, rfl, rfl, rfl, rfl, rfl, rfl⟩

end Sys2Proof
end

section
/-! The starts that are refused (spec/30_encoding.md R111, spec/10_state.md R32): a reserved code, a descriptor shorter
than its operand list, and a parameter register never written. -/

namespace Sys2Proof.Machine

/-! ## Reserved codes -/

theorem reservedCode_eq (opc : Byte) (s : State) :
    s.reservedCode opc = s.endedRefused { s.par with opc := some opc } := rfl

/-! The high bits a reserved row fixes and the low ones it carries make the code again. -/

theorem reserved18_join {opc : Byte} : 0x18 ≤ opc.toNat → opc.toNat < 0x20 →
    0b00011#5 ++ opc.extractLsb' 0 3 = opc := by
  revert opc; decide
theorem reserved20_join {opc : Byte} : 0x20 ≤ opc.toNat → opc.toNat < 0x40 →
    0b001#3 ++ opc.extractLsb' 0 5 = opc := by
  revert opc; decide
theorem reserved40_join {opc : Byte} : 0x40 ≤ opc.toNat → opc.toNat < 0x80 →
    0b01#2 ++ opc.extractLsb' 0 6 = opc := by
  revert opc; decide
theorem reserved80_join {opc : Byte} : 0x80 ≤ opc.toNat →
    0b1#1 ++ opc.extractLsb' 0 7 = opc := by
  revert opc; decide

/-! Each reserved row refuses its code. -/

theorem exec_reserved00 (s : State) : exec .reserved00 s = .next (s.reservedCode 0x00) := rfl
theorem exec_reserved18 (low : BitVec 3) (s : State) :
    exec (.reserved18 low) s = .next (s.reservedCode (0b00011#5 ++ low)) := rfl
theorem exec_reserved20 (low : BitVec 5) (s : State) :
    exec (.reserved20 low) s = .next (s.reservedCode (0b001#3 ++ low)) := rfl
theorem exec_reserved40 (low : BitVec 6) (s : State) :
    exec (.reserved40 low) s = .next (s.reservedCode (0b01#2 ++ low)) := rfl
theorem exec_reserved80 (low : BitVec 7) (s : State) :
    exec (.reserved80 low) s = .next (s.reservedCode (0b1#1 ++ low)) := rfl

/-- Whichever row a reserved code falls in, running it refuses the operation of that code. -/
theorem exec_decodeReserved {opc : Byte} (h : IsReservedCode opc) (s : State) :
    exec (decodeReserved opc) s = .next (s.reservedCode opc) := by
  unfold decodeReserved
  split_ifs with h18 h20 h40 h80
  · obtain rfl : opc = 0 := h.resolve_right (Nat.not_le.mpr h18)
    exact exec_reserved00 s
  · rw [exec_reserved18, reserved18_join (Nat.not_lt.mp h18) h20]
  · rw [exec_reserved20, reserved20_join (Nat.not_lt.mp h20) h40]
  · rw [exec_reserved40, reserved40_join (Nat.not_lt.mp h40) h80]
  · rw [exec_reserved80, reserved80_join (Nat.not_lt.mp h80)]

/-- Settles O6: a descriptor that begins with a reserved code runs its row, and each row refuses its code. -/
theorem reservedCodesAreRefused : Obligations.ReservedCodesAreRefused := by
  intro s
  refine ⟨fun opc ops rest hbox hopc => ?_, exec_reserved00 s, fun low => ?_, fun low => ?_, fun low => ?_,
    fun low => ?_⟩
  · rw [step_of_serve_run hbox (serve_start (decodeDescriptor_reserved hopc ops) _), exec_decodeReserved hopc,
      reservedCode_eq]
  · rw [exec_reserved18, reserved18_code, reservedCode_eq]
  · rw [exec_reserved20, reserved20_code, reservedCode_eq]
  · rw [exec_reserved40, reserved40_code, reservedCode_eq]
  · rw [exec_reserved80, reserved80_code, reservedCode_eq]

/-! ## Missing operands -/

/-- What the decoder reads as an operation is at least as long as its operand list (R110): row by row, the bytes the
decoder names are as many as the list says. -/
theorem operandBytes_le_of_decodeOperands {opc : Byte} {ops : Bytes} {i : Instr}
    (h : decodeOperands opc ops = some i) : operandBytes opc ≤ ops.length := by
  unfold decodeOperands at h
  unfold operandBytes
  split at h
  all_goals simp_all

/-- `DETECT` whose count byte says more than follows. -/
theorem decodeOperands_shortDetect {n : Byte} {ops : Bytes} (h : ops.length < n.toNat) :
    decodeOperands 0x14 (n :: ops) = none := by
  calc decodeOperands 0x14 (n :: ops) = (takeExactly n.toNat ops).map .detect := rfl
    _ = none := by rw [takeExactly_of_lt h, Option.map_none]

theorem decodeDescriptor_of_none {opc : Byte} {ops : Bytes} (h : decodeOperands opc ops = none) :
    decodeDescriptor (opc :: ops) = .error (.shortDescriptor opc) := by
  simp only [decodeDescriptor, h]

/-- The descriptors that R111 refuses as too short. -/
def IsShortDescriptor (desc : Bytes) : Prop :=
  desc.length < 1 + operandBytes (byteAt desc 0) ∨ ∃ n ops, desc = 0x14 :: n :: ops ∧ ops.length < n.toNat

theorem decodeDescriptor_short {desc : Bytes} (h : IsShortDescriptor desc) :
    ∃ e, decodeDescriptor desc = .error e := by
  obtain hlen | ⟨n, ops, rfl, hcount⟩ := h
  · cases desc with
    | nil => exact ⟨_, rfl⟩
    | cons opc ops =>
      have hshort : ops.length < operandBytes opc := by
        simp only [List.length_cons, byteAt, List.getD_cons_zero] at hlen
        omega
      refine ⟨_, decodeDescriptor_of_none (Option.eq_none_iff_forall_ne_some.mpr fun i hi => ?_)⟩
      exact Nat.not_le.mpr hshort (operandBytes_le_of_decodeOperands hi)
  · exact ⟨_, decodeDescriptor_of_none (decodeOperands_shortDetect hcount)⟩

theorem serve_start_error {desc : Bytes} {e : DecodeError} (h : decodeDescriptor desc = .error e) (s : State) :
    serve (.start desc) s = .served s.refuse := by
  simp only [serve, h]

theorem serve_startRegs_none {opc : Byte} {s : State} (h : instrOfParams opc s.par = none) :
    serve (.startRegs opc) s = .served (s.endedRefused { s.par with opc := some opc }) := by
  simp only [serve, h]
  rfl

/-- The operation `opc` reads a parameter register that was never written (R22, R32). -/
def ReadsUnwritten (opc : Byte) (p : ParamRegs) : Prop :=
  (opc = 0x04 ∧ p.seed = none) ∨ (opc = 0x05 ∧ (p.bytein = none ∨ p.ckin = none)) ∨
    (opc = 0x07 ∧ (p.word = none ∨ p.woff = none)) ∨ (opc = 0x0D ∧ p.pidx = none) ∨
    (opc = 0x0E ∧ (p.model = none ∨ p.cmd = none)) ∨
    ((opc = 0x10 ∨ opc = 0x12) ∧ (p.base = none ∨ p.model = none)) ∨
    ((opc = 0x13 ∨ opc = 0x15 ∨ opc = 0x16 ∨ opc = 0x17) ∧ p.chan = none) ∨
    (opc = 0x14 ∧ p.cands = none) ∨
    (opc = 0x16 ∧ (p.start = none ∨ p.count = none ∨ p.model = none)) ∨
    (opc = 0x17 ∧ (p.model = none ∨ p.label = none))

theorem bind_map_eq_none {α β γ : Type} {a : Option α} {b : Option β} {f : α → β → γ} (h : a = none ∨ b = none) :
    (a.bind fun x => b.map (f x)) = none := by
  obtain rfl | rfl := h
  · rfl
  · cases a <;> rfl

theorem instrOfParams_unwritten {opc : Byte} {p : ParamRegs} (h : ReadsUnwritten opc p) :
    instrOfParams opc p = none := by
  obtain ⟨rfl, h⟩ | ⟨rfl, h⟩ | ⟨rfl, h⟩ | ⟨rfl, h⟩ | ⟨rfl, h⟩ | ⟨hopc, h⟩ | ⟨hopc, h⟩ | ⟨rfl, h⟩ | ⟨rfl, h⟩ |
    ⟨rfl, h⟩ := h
  · exact congrArg (Option.map _) h
  · exact bind_map_eq_none h
  · exact bind_map_eq_none h
  · exact congrArg (Option.map _) h
  · exact bind_map_eq_none h
  · obtain rfl | rfl := hopc <;> exact bind_map_eq_none h
  · obtain rfl | rfl | rfl | rfl := hopc
    · exact congrArg (Option.map _) h
    · exact congrArg (Option.map _) h
    · exact congrArg (Option.bind · _) h
    · exact congrArg (Option.bind · _) h
  · exact congrArg (Option.map _) h
  · obtain h | h | h := h <;> simp [instrOfParams, h]
  · obtain h | h := h <;> simp [instrOfParams, h]

/-- Settles O7: neither start names an instruction, so it is answered with `Refused`. -/
theorem missingOperandsAreRefused : Obligations.MissingOperandsAreRefused := by
  intro s rest
  refine ⟨fun desc hbox hshort => ?_, fun opc hbox hunwritten => ?_⟩
  · obtain ⟨e, herr⟩ := decodeDescriptor_short hshort
    exact step_of_serve_served hbox (serve_start_error herr _)
  · exact step_of_serve_served hbox (serve_startRegs_none (instrOfParams_unwritten hunwritten))

end Sys2Proof.Machine
end

section
/-! What a wire message and its payload carry (spec/30_encoding.md R80, R83, R84): the fields of a message, and `EXPAND`
and `TCIPHER` undoing `PACK` and `TCIPHER`. -/

namespace Sys2Proof.Machine

/-! ## The bit transcoder -/

theorem getLsbD_append_bit_zero {n : Nat} (hi : BitVec n) (lo : BitVec 1) :
    (hi ++ lo).getLsbD 0 = lo.getLsbD 0 := by
  rw [BitVec.getLsbD_append, if_pos Nat.one_pos]

theorem getLsbD_append_bit_succ {n : Nat} (hi : BitVec n) (lo : BitVec 1) (i : Nat) :
    (hi ++ lo).getLsbD (i + 1) = hi.getLsbD i := by
  simp [BitVec.getLsbD_append]

theorem getLsbD_topBit (p : Byte) : (p.extractLsb' 7 1).getLsbD 0 = p.getLsbD 7 := by
  simp

/-- Bit 7 of plain byte `j` travels in bit `6 - j` of the flags byte (R92, R122). -/
theorem packFlags_getLsbD (p0 p1 p2 p3 p4 p5 p6 : Byte) :
    (packFlags p0 p1 p2 p3 p4 p5 p6).getLsbD 6 = p0.getLsbD 7 ∧
    (packFlags p0 p1 p2 p3 p4 p5 p6).getLsbD 5 = p1.getLsbD 7 ∧
    (packFlags p0 p1 p2 p3 p4 p5 p6).getLsbD 4 = p2.getLsbD 7 ∧
    (packFlags p0 p1 p2 p3 p4 p5 p6).getLsbD 3 = p3.getLsbD 7 ∧
    (packFlags p0 p1 p2 p3 p4 p5 p6).getLsbD 2 = p4.getLsbD 7 ∧
    (packFlags p0 p1 p2 p3 p4 p5 p6).getLsbD 1 = p5.getLsbD 7 ∧
    (packFlags p0 p1 p2 p3 p4 p5 p6).getLsbD 0 = p6.getLsbD 7 := by
  simp only [packFlags, getLsbD_append_bit_zero, getLsbD_append_bit_succ, getLsbD_topBit, and_self]

/-- A masked byte gets its bit 7 back from the flags byte. -/
theorem expandByte_masked {flags p : Byte} (j : Nat) (h : flags.getLsbD (6 - j) = p.getLsbD 7) :
    expandByte flags j (p &&& 0x7F) = p := by
  have hrestore : ∀ q : Byte, (q &&& 0x7F) ||| (if q.getLsbD 7 then 0x80 else 0x00) = q := by decide
  rw [expandByte, h, hrestore]

/-- What is too short for a group holds fewer than seven bytes. -/
theorem length_lt_seven {bs : Bytes}
    (h : ∀ p0 p1 p2 p3 p4 p5 p6 rest, bs = p0 :: p1 :: p2 :: p3 :: p4 :: p5 :: p6 :: rest → False) : bs.length < 7 :=
  match bs, h with
  | [], _ | [_], _ | [_, _], _ | [_, _, _], _ | [_, _, _, _], _ | [_, _, _, _, _], _ | [_, _, _, _, _, _], _ => by
    simp
  | _ :: _ :: _ :: _ :: _ :: _ :: _ :: _, h => (h _ _ _ _ _ _ _ _ rfl).elim

/-- `EXPAND` undoes `PACK` on whole groups (R120, R122). -/
theorem expand_pack {bs : Bytes} (h : bs.length % 7 = 0) : expand (pack bs) = bs := by
  fun_induction pack bs with
  | case1 p0 p1 p2 p3 p4 p5 p6 rest ih =>
    have hrest : rest.length % 7 = 0 := by simp only [List.length_cons] at h; omega
    obtain ⟨h0, h1, h2, h3, h4, h5, h6⟩ := packFlags_getLsbD p0 p1 p2 p3 p4 p5 p6
    simp only [List.cons_append, List.nil_append, expand, ih hrest, expandByte_masked 0 h0, expandByte_masked 1 h1,
      expandByte_masked 2 h2, expandByte_masked 3 h3, expandByte_masked 4 h4, expandByte_masked 5 h5,
      expandByte_masked 6 h6]
  | case2 bs hfew =>
    have hlen := length_lt_seven hfew
    obtain rfl : bs = [] := List.eq_nil_of_length_eq_zero (by omega)
    rfl

theorem pack_length (bs : Bytes) : (pack bs).length = bs.length / 7 * 8 := by
  fun_induction pack bs with
  | case1 p0 p1 p2 p3 p4 p5 p6 rest ih =>
    simp only [List.length_append, List.length_cons, List.length_nil, ih]
    omega
  | case2 bs hfew => rw [Nat.div_eq_of_lt (length_lt_seven hfew)]; rfl

/-! ## The transport cipher -/

@[simp] theorem tcipherFrom_length (key : Vector Byte 13) (i : Fin 13) (bs : Bytes) :
    (tcipherFrom key i bs).1.length = bs.length := by
  induction bs generalizing i with
  | nil => rfl
  | cons b rest ih => simp only [tcipherFrom, List.length_cons, ih]

@[simp] theorem tcipher_length (key : Vector Byte 13) (bs : Bytes) : (tcipher key bs).length = bs.length :=
  tcipherFrom_length key 0 bs

theorem tcipherFrom_tcipherFrom (key : Vector Byte 13) (i : Fin 13) (bs : Bytes) :
    (tcipherFrom key i (tcipherFrom key i bs).1).1 = bs := by
  induction bs generalizing i with
  | nil => rfl
  | cons b rest ih => simp only [tcipherFrom, ih, BitVec.xor_assoc, BitVec.xor_self, BitVec.xor_zero]

/-- `TCIPHER` undoes itself (R141). -/
theorem tcipher_tcipher (key : Vector Byte 13) (bs : Bytes) : tcipher key (tcipher key bs) = bs :=
  tcipherFrom_tcipherFrom key 0 bs

/-! ## Payloads -/

theorem carry_length (key : Vector Byte 13) (plain : Bytes) : (carry key plain).length = plain.length / 7 * 8 := by
  rw [carry, pack_length, tcipher_length]

/-- A plain payload of whole groups is read back from the payload that carries it (R83). -/
theorem plainOf_carry (key : Vector Byte 13) {plain : Bytes} (h : plain.length % 7 = 0) :
    plainOf key (carry key plain) = plain := by
  rw [plainOf, carry, expand_pack (by rwa [tcipher_length]), tcipher_tcipher]

/-- The page index, most significant byte first, is read back (R84, R87). -/
theorem be16_byteOf (v : Half) : be16 (byteOf 1 v) (byteOf 0 v) = v := le16_put16 v

theorem pagePlain_length (order : Config.BitOrder) (pidx : Half) (data : Bytes) :
    (pagePlain order pidx data).length = data.length + 3 := rfl

theorem pidxOf_pagePlain (order : Config.BitOrder) (pidx : Half) (data : Bytes) :
    pidxOf (pagePlain order pidx data) = pidx := be16_byteOf pidx

theorem byteAt_pagePlain (order : Config.BitOrder) (pidx : Half) (data : Bytes) :
    byteAt (pagePlain order pidx data) 2 = ckPage order data := rfl

theorem drop_pagePlain (order : Config.BitOrder) (pidx : Half) (data : Bytes) :
    (pagePlain order pidx data).drop 3 = data := rfl

theorem pagePayload_length (order : Config.BitOrder) (key : Vector Byte 13) (pidx : Half) {data : Bytes}
    (h : data.length = 256) : (pagePayload order key pidx data).length = Config.pagePayloadLen := by
  rw [pagePayload, carry_length, pagePlain_length, h]
  rfl

theorem plainOf_pagePayload (order : Config.BitOrder) (key : Vector Byte 13) (pidx : Half) {data : Bytes}
    (h : data.length = 256) : plainOf key (pagePayload order key pidx data) = pagePlain order pidx data :=
  plainOf_carry key (by rw [pagePlain_length, h])

/-- `PAGEDEC` of what `PAGEENC` made answers the plain page, having written `TKI` and `CK` (R216, R218). -/
theorem pagedecRun_pagePayload (key : Vector Byte 13) (pidx : Half) {data : Bytes} (h : data.length = 256)
    (s : State) :
    pagedecRun key (pagePayload s.cfg.ckBitOrder key pidx data) s =
      .ok (pagePlain s.cfg.ckBitOrder pidx data)
        ((s.putTki (tkiAfter key (expand (pagePayload s.cfg.ckBitOrder key pidx data)))).putCk
          (ckAfter s.cfg.ckBitOrder data)) := by
  simp only [pagedecRun, ckPage, pagePayload_length _ _ _ h, plainOf_pagePayload _ _ _ h, byteAt_pagePlain,
    drop_pagePlain, ne_eq, not_true_eq_false, if_false]

/-! ## The fields of a message -/

theorem isMfr_messageBytes (model cmd : Byte) (payload : Bytes) : isMfr (messageBytes model cmd payload) = true := by
  simp [isMfr, messageBytes, Config.manuf]

@[simp] theorem classify_messageBytes (model cmd : Byte) (payload : Bytes) :
    classify (messageBytes model cmd payload) = some cmd := by
  rw [classify, if_pos (isMfr_messageBytes model cmd payload)]
  rfl

@[simp] theorem payloadOf_messageBytes (model cmd : Byte) (payload : Bytes) :
    payloadOf (messageBytes model cmd payload) = payload :=
  List.dropLast_concat

theorem rewriteReply_messageBytes (model cmd : Byte) (payload : Bytes) :
    rewriteReply (messageBytes model cmd payload) = messageBytes model Config.cmdRead payload := rfl

end Sys2Proof.Machine
end

section
/-! The answers of the sequencer to a wire message (spec/30_encoding.md R93; log 11), wait by wait. -/

namespace Sys2Proof.Machine

/-! ## Delivery -/

theorem deliver_probeWait {s : State} (h : s.dp.seq = .probeWait) (m : Bytes) : s.deliver m = probeMessage m s := by
  simp only [State.deliver, h]

theorem deliver_upWaitAck {s : State} (h : s.dp.seq = .upWaitAck) (m : Bytes) : s.deliver m = ackMessage m s := by
  simp only [State.deliver, h]

theorem deliver_rtWait {s : State} (h : s.dp.seq = .rtWait) (m : Bytes) : s.deliver m = pageMessage m s := by
  simp only [State.deliver, h]

/-- The command byte of a message row (R93). -/
inductive MessageFields : Instr → Byte → Byte → Bytes → Prop where
  | probe (model : Byte) (payload : Bytes) : MessageFields (.msgProbe model payload) Config.cmdProbe model payload
  | pageWrite (model : Byte) (payload : Bytes) :
      MessageFields (.msgPageWrite model payload) Config.cmdWrite model payload
  | ack (model : Byte) (payload : Bytes) : MessageFields (.msgAck model payload) Config.cmdAck model payload
  | pageRead (model : Byte) (payload : Bytes) :
      MessageFields (.msgPageRead model payload) Config.cmdRead model payload

/-- A message row delivers the message of its command. -/
theorem MessageFields.exec {i : Instr} {cmd model : Byte} {payload : Bytes} (h : MessageFields i cmd model payload)
    (s : State) : Machine.exec i s = .next (s.deliver (messageBytes model cmd payload)) := by
  cases h <;> rfl

/-- A channel operation that ends with an error: the host sees its kind, `SEQ` is at `FAILED`, the channel is closed. -/
structure EndsWith (t : State) (k : ErrKind) : Prop where
  errKind : t.errKind = some k
  seq : t.dp.seq = .failed
  openChan : t.openChan = none

theorem finishChannel_raised_endsWith (e : Err) (s : State) : EndsWith (finishChannel (.raised e s)) e.kind :=
  ⟨by simp, by simp, by simp⟩

/-! ## The wait of a probe -/

section ProbeWait

variable {s : State} {req : Bytes} {chan : Byte}

/-- Of the messages with a command, a probe skips the echo alone (R265). -/
theorem probeSkips_messageBytes (req : Bytes) (model cmd : Byte) (payload : Bytes) :
    probeSkips req (messageBytes model cmd payload) = true ↔ messageBytes model cmd payload = req := by
  simp [probeSkips, isMfr_messageBytes]

theorem probeMessage_of_skips {m : Bytes} (hreq : s.cfg.probeRequest = some req) (hchan : s.openChan = some chan)
    (h : probeSkips req m = true) : probeMessage m s = s := by
  simp only [probeMessage, hreq, hchan, h, if_true]

theorem probeMessage_of_not_skips {m : Bytes} (hreq : s.cfg.probeRequest = some req) (hchan : s.openChan = some chan)
    (h : ¬probeSkips req m = true) : probeMessage m s = finishChannel (doneWith (Output.ofDevice chan) s) := by
  simp only [probeMessage, hreq, hchan, if_neg h]

end ProbeWait

/-- Settles O52: each row delivers its message, which is the echo or identifies the device. -/
theorem messagesInProbeWait : Obligations.MessagesInProbeWait := by
  intro s req chan model cmd payload i hreq hchan hseq hrows
  have hrow : MessageFields i cmd model payload := by
    obtain ⟨rfl, rfl⟩ | ⟨rfl, rfl⟩ | ⟨rfl, rfl⟩ | ⟨rfl, rfl⟩ := hrows
    · exact .probe model payload
    · exact .pageWrite model payload
    · exact .ack model payload
    · exact .pageRead model payload
  have hskips := probeSkips_messageBytes req model cmd payload
  rw [hrow.exec, deliver_probeWait hseq]
  refine ⟨fun hecho => ?_, fun hreply => ⟨_, rfl, ?_⟩⟩
  · rw [probeMessage_of_skips hreq hchan (hskips.2 hecho)]
  · rw [probeMessage_of_not_skips hreq hchan (mt hskips.1 hreply)]
    exact ⟨returned_returnOk _ _, by simp [doneWith], by simp [doneWith]⟩

/-! ## An acknowledgment wait -/

section AckWait

variable {s : State} {key : Vector Byte 13}

theorem ackMessage_of_skips {m : Bytes} (hkey : s.cfg.transportKey = some key) (h : ackSkips m = true) :
    ackMessage m s = s := by
  simp only [ackMessage, hkey, h, if_true]

theorem ackMessage_of_ok {m : Bytes} {r : Report} {t : State} (hkey : s.cfg.transportKey = some key)
    (hskip : ackSkips m = false) (h : acceptAck key m s = .ok r t) : ackMessage m s = t.addReport r := by
  simp only [ackMessage, hkey, hskip, h, Bool.false_eq_true, if_false]

theorem ackMessage_of_raised {m : Bytes} {e : Err} {t : State} (hkey : s.cfg.transportKey = some key)
    (hskip : ackSkips m = false) (h : acceptAck key m s = .raised e t) :
    ackMessage m s = finishChannel (.raised e t) := by
  simp only [ackMessage, hkey, hskip, h, Bool.false_eq_true, if_false]

/-- The wait discards the page writes, and no other message with a command (R276). -/
theorem ackSkips_messageBytes (model cmd : Byte) (payload : Bytes) :
    ackSkips (messageBytes model cmd payload) = (cmd == Config.cmdWrite) := by
  simp [ackSkips]

/-- Any command but that of an acknowledgment is the first thing the wait checks (R276). -/
theorem acceptAck_of_other {cmd : Byte} (h : cmd ≠ Config.cmdAck) (model : Byte) (payload : Bytes) :
    acceptAck key (messageBytes model cmd payload) s = .raised ⟨.unexpectedResponse, .command cmd⟩ s := by
  simp [acceptAck, classInfo, h]

/-- An acknowledgment that carries whole groups of a plain payload, ciphered, with a status of R87, is reported. -/
theorem acceptAck_carry {plain : Bytes} (hciphered : s.cfg.ackCiphered = true) (hgroups : plain.length % 7 = 0)
    (hsome : plain ≠ []) (hstatus : (byteAt plain 2).toNat ≤ Config.ackStatusMax) (model : Byte) :
    acceptAck key (messageBytes model Config.cmdAck (carry key plain)) s =
      .ok ⟨pidxOf plain, byteAt plain 2⟩
        ((s.putTki (tkiAfter key (expand (carry key plain)))).setSeq .upSend) := by
  have hpos := List.length_pos_iff.mpr hsome
  have hlen : ¬((carry key plain).length = 0 ∨ (carry key plain).length % 8 ≠ 0) := by
    rw [carry_length]
    omega
  simp only [acceptAck, classify_messageBytes, payloadOf_messageBytes, ne_eq, not_true_eq_false, if_false, if_neg hlen,
    hciphered, ackPlain, if_true, plainOf_carry key hgroups, State.putAck, Nat.not_lt.mpr hstatus]

end AckWait

/-- Settles O50: each row delivers its message, which the wait skips, reports or answers with an error. -/
theorem messagesInAckWait : Obligations.MessagesInAckWait := by
  intro s key model hkey hseq
  refine ⟨fun payload => ?_, fun addr status more hciphered hstatus hgroups => ?_, fun payload i hi => ?_⟩
  · rw [(MessageFields.pageWrite model payload).exec, deliver_upWaitAck hseq,
      ackMessage_of_skips hkey (ackSkips_messageBytes _ _ _)]
  · intro plain
    have hlen : plain.length % 7 = 0 := by
      have hparts : plain.length = 3 + more.length := Nat.add_comm more.length 3
      rwa [hparts]
    have haddr : pidxOf plain = addr := be16_byteOf addr
    have hack := acceptAck_carry (key := key) (plain := plain) hciphered hlen (List.cons_ne_nil _ _) hstatus model
    refine ⟨_, (MessageFields.ack model (carry key plain)).exec s, ?_⟩
    rw [deliver_upWaitAck hseq, ackMessage_of_ok hkey (ackSkips_messageBytes _ _ _) hack, haddr]
    exact ⟨rfl, rfl, rfl, rfl, rfl⟩
  · obtain ⟨cmd, hrow, hwrite, hack⟩ :
        ∃ cmd, MessageFields i cmd model payload ∧ (cmd == Config.cmdWrite) = false ∧ cmd ≠ Config.cmdAck := by
      obtain rfl | rfl := hi
      · exact ⟨_, .probe model payload, rfl, by decide⟩
      · exact ⟨_, .pageRead model payload, rfl, by decide⟩
    refine ⟨_, hrow.exec s, ?_⟩
    rw [deliver_upWaitAck hseq, ackMessage_of_raised hkey ((ackSkips_messageBytes _ _ _).trans hwrite)
      (acceptAck_of_other hack model payload)]
    obtain ⟨herr, hfailed, hclosed⟩ := finishChannel_raised_endsWith ⟨.unexpectedResponse, .command cmd⟩ s
    exact ⟨herr, hfailed, hclosed⟩

/-! ## A page wait -/

section PageWait

variable {s : State} {key : Vector Byte 13} {start count : Addr}

theorem pageMessage_of_skips {m : Bytes} (hkey : s.cfg.transportKey = some key) (hstart : s.par.start = some start)
    (hcount : s.par.count = some count) (h : pageSkips m = true) : pageMessage m s = s := by
  simp only [pageMessage, hkey, hstart, hcount, h, if_true]

/-- An accepted page before the last leads to the next request (R285). -/
theorem pageMessage_of_ok_more {m r : Bytes} {t : State} (hkey : s.cfg.transportKey = some key)
    (hstart : s.par.start = some start) (hcount : s.par.count = some count) (hskip : pageSkips m = false)
    (h : acceptReply key (retrievePidx start s) m s = .ok r t) (hmore : t.dp.page + 1 < count.toNat / 256) :
    pageMessage m s = (t.addReply r).setSeq .rtSend := by
  simp only [pageMessage, hkey, hstart, hcount, hskip, h, Bool.false_eq_true, if_false]
  exact if_pos hmore

/-- The last page ends the operation (R285). -/
theorem pageMessage_of_ok_last {m r : Bytes} {t : State} (hkey : s.cfg.transportKey = some key)
    (hstart : s.par.start = some start) (hcount : s.par.count = some count) (hskip : pageSkips m = false)
    (h : acceptReply key (retrievePidx start s) m s = .ok r t) (hlast : count.toNat / 256 ≤ t.dp.page + 1) :
    pageMessage m s = finishChannel (doneWith (Output.ofBytes (t.addReply r).outBuf) (t.addReply r)) := by
  simp only [pageMessage, hkey, hstart, hcount, hskip, h, Bool.false_eq_true, if_false]
  exact if_neg (Nat.not_lt.mpr hlast)

theorem pageMessage_of_raised {m : Bytes} {e : Err} {t : State} (hkey : s.cfg.transportKey = some key)
    (hstart : s.par.start = some start) (hcount : s.par.count = some count) (hskip : pageSkips m = false)
    (h : acceptReply key (retrievePidx start s) m s = .raised e t) :
    pageMessage m s = finishChannel (.raised e t) := by
  simp only [pageMessage, hkey, hstart, hcount, hskip, h, Bool.false_eq_true, if_false]

/-- The wait discards the page reads, and no other message with a command (R292). -/
theorem pageSkips_messageBytes (model cmd : Byte) (payload : Bytes) :
    pageSkips (messageBytes model cmd payload) = (cmd == Config.cmdRead) := by
  simp [pageSkips]

/-- Any command but that of a page write is the first thing the wait checks (R292). -/
theorem acceptReply_of_other {cmd : Byte} (h : cmd ≠ Config.cmdWrite) (pidx : Half) (model : Byte) (payload : Bytes) :
    acceptReply key pidx (messageBytes model cmd payload) s = .raised ⟨.unexpectedResponse, .command cmd⟩ s := by
  simp [acceptReply, classInfo, h]

/-- The page asked for passes the checks of R292; deciphering it writes `TKI` and `CK`. -/
theorem acceptReply_pagePayload {data : Bytes} (h : data.length = 256) (pidx : Half) (model : Byte) :
    acceptReply key pidx (messageBytes model Config.cmdWrite (pagePayload s.cfg.ckBitOrder key pidx data)) s =
      .ok (messageBytes model Config.cmdWrite (pagePayload s.cfg.ckBitOrder key pidx data))
        ((s.putTki (tkiAfter key (expand (pagePayload s.cfg.ckBitOrder key pidx data)))).putCk
          (ckAfter s.cfg.ckBitOrder data)) := by
  simp only [acceptReply, classify_messageBytes, payloadOf_messageBytes, ne_eq, not_true_eq_false, if_false,
    pagePayload_length _ _ _ h, pagedecRun_pagePayload key pidx h, Run.andThen_ok, pidxOf_pagePlain]

/-- The page index of the loop of `RETRIEVE`, counted in pages (R285). -/
theorem retrievePidx_eq (start : Addr) (s : State) :
    retrievePidx start s = BitVec.ofNat 16 (start.toNat / 256 + s.dp.page) := by
  unfold retrievePidx pidxOfAddr
  rw [Nat.add_mul_div_left _ _ (by decide)]

end PageWait

/-- Settles O51: each row delivers its message, which the wait skips, takes or answers with an error. -/
theorem messagesInPageWait : Obligations.MessagesInPageWait := by
  intro s key model start count hkey hseq hstart hcount
  refine ⟨fun payload => ?_, fun data hdata => ?_, fun payload i hi => ?_⟩
  · rw [(MessageFields.pageRead model payload).exec, deliver_rtWait hseq,
      pageMessage_of_skips hkey hstart hcount (pageSkips_messageBytes _ _ _)]
  · rw [← retrievePidx_eq]
    intro pidx payload
    have hskip := pageSkips_messageBytes model Config.cmdWrite payload
    have hok := acceptReply_pagePayload (s := s) (key := key) hdata pidx model
    refine ⟨_, (MessageFields.pageWrite model payload).exec s, ?_⟩
    rw [deliver_rtWait hseq]
    by_cases hmore : s.dp.page + 1 < count.toNat / 256
    · rw [pageMessage_of_ok_more hkey hstart hcount hskip hok hmore]
      exact ⟨append_eq_append _ _, rfl, fun _ => ⟨rfl, rfl⟩, fun hlast => absurd hmore (Nat.not_lt.mpr hlast)⟩
    · rw [pageMessage_of_ok_last hkey hstart hcount hskip hok (Nat.not_lt.mp hmore)]
      refine ⟨append_eq_append _ _, ?_, fun h => absurd h hmore, fun _ => ⟨?_, returned_returnOk _ _⟩⟩
      · simp [doneWith]
      · simp [doneWith]
  · obtain ⟨cmd, hrow, hread, hwrite⟩ :
        ∃ cmd, MessageFields i cmd model payload ∧ (cmd == Config.cmdRead) = false ∧ cmd ≠ Config.cmdWrite := by
      obtain rfl | rfl := hi
      · exact ⟨_, .probe model payload, rfl, by decide⟩
      · exact ⟨_, .ack model payload, rfl, by decide⟩
    refine ⟨_, hrow.exec s, ?_⟩
    rw [deliver_rtWait hseq, pageMessage_of_raised hkey hstart hcount ((pageSkips_messageBytes _ _ _).trans hread)
      (acceptReply_of_other hwrite _ model payload)]
    obtain ⟨herr, hfailed, hclosed⟩ := finishChannel_raised_endsWith ⟨.unexpectedResponse, .command cmd⟩ s
    exact ⟨herr, hfailed, hclosed⟩

end Sys2Proof.Machine
end

section
/-! The composite conversions as their two parts (spec/30_encoding.md R113): the first part runs as it does alone, and
the second answers what it answers alone, since of the state it finds it reads the configuration only. -/

namespace Sys2Proof.Machine

/-! ## A configured operation -/

theorem withKey_of_some {s : State} {key : Vector Byte 13} (h : s.cfg.transportKey = some key)
    (run : Vector Byte 13 → State) : s.withKey run = run key := by
  simp only [State.withKey, h]

theorem withKey_of_none {s : State} (h : s.cfg.transportKey = none) (run : Vector Byte 13 → State) :
    s.withKey run = s.refuse := by
  simp only [State.withKey, h]

theorem withTables_of_some {s : State} {t1 : Vector Word 15} {t2 : Vector Word 14} (h1 : s.cfg.osT1 = some t1)
    (h2 : s.cfg.osT2 = some t2) (run : Vector Word 15 → Vector Word 14 → State) : s.withTables run = run t1 t2 := by
  simp only [State.withTables, h1, h2]

section Exec

variable {s : State} {key : Vector Byte 13} {t1 : Vector Word 15} {t2 : Vector Word 14}

theorem exec_syx2dump (hkey : s.cfg.transportKey = some key) :
    exec .syx2dump s = .next (finish (syx2dumpRun key s.inBuf (s.latch (latched .syx2dump)).begin)) :=
  congrArg Host.Outcome.next (withKey_of_some (s := s.latch (latched .syx2dump)) hkey _)

theorem exec_dump2os (h1 : s.cfg.osT1 = some t1) (h2 : s.cfg.osT2 = some t2) :
    exec .dump2os s =
      .next (finish ((dump2osRun t1 t2 s.inBuf (s.latch (latched .dump2os)).begin).andThen onlyOut)) :=
  congrArg Host.Outcome.next (withTables_of_some (s := s.latch (latched .dump2os)) h1 h2 _)

theorem exec_os2dump (h1 : s.cfg.osT1 = some t1) (h2 : s.cfg.osT2 = some t2) :
    exec .os2dump s =
      .next (finish ((os2dumpRun t1 t2 s.inBuf (s.latch (latched .os2dump)).begin).andThen onlyOut)) :=
  congrArg Host.Outcome.next (withTables_of_some (s := s.latch (latched .os2dump)) h1 h2 _)

theorem exec_dump2syx (hkey : s.cfg.transportKey = some key) (base : Addr) (model : Byte) :
    exec (.dump2syx base model) s =
      .next (finish ((dump2syxRun key base model s.inBuf (s.latch (latched (.dump2syx base model))).begin).andThen
        onlyOut)) :=
  congrArg Host.Outcome.next (withKey_of_some (s := s.latch (latched (.dump2syx base model))) hkey _)

theorem exec_syx2os (hkey : s.cfg.transportKey = some key) (h1 : s.cfg.osT1 = some t1) (h2 : s.cfg.osT2 = some t2) :
    exec .syx2os s =
      .next (finish ((syx2dumpRun key s.inBuf (s.latch (latched .syx2os)).begin).andThen fun o s =>
        (dump2osRun t1 t2 o.out s).andThen fun image s => .ok { o with out := image } s)) :=
  congrArg Host.Outcome.next <| (withKey_of_some (s := s.latch (latched .syx2os)) hkey _).trans
    (withTables_of_some (s := s.latch (latched .syx2os)) h1 h2 _)

theorem exec_os2syx (hkey : s.cfg.transportKey = some key) (h1 : s.cfg.osT1 = some t1) (h2 : s.cfg.osT2 = some t2)
    (base : Addr) (model : Byte) :
    exec (.os2syx base model) s =
      .next (finish ((os2dumpRun t1 t2 s.inBuf (s.latch (latched (.os2syx base model))).begin).andThen fun dump s =>
        (dump2syxRun key base model dump s).andThen onlyOut)) :=
  congrArg Host.Outcome.next <| (withKey_of_some (s := s.latch (latched (.os2syx base model))) hkey _).trans
    (withTables_of_some (s := s.latch (latched (.os2syx base model))) h1 h2 _)

/-- Without a key neither `SYX2DUMP` nor `SYX2OS` starts (R342). -/
theorem exec_of_key_none (hkey : s.cfg.transportKey = none) :
    exec .syx2dump s = .next (s.latch (latched .syx2dump)).refuse ∧
      exec .syx2os s = .next (s.latch (latched .syx2os)).refuse :=
  ⟨congrArg Host.Outcome.next (withKey_of_none (s := s.latch (latched .syx2dump)) hkey _),
    congrArg Host.Outcome.next (withKey_of_none (s := s.latch (latched .syx2os)) hkey _)⟩

end Exec

/-! ## What the second parts read of a state -/

/-- Both runs answer the same value or raise the same error, whatever states they leave. -/
abbrev Run.SameAnswer {α : Type} (r r' : Run α) : Prop := Run.Both (fun _ _ => True) r r'

/-- `DUMP2OS` reads its dump and the tables, and no register. -/
theorem dump2osRun_sameAnswer (t1 : Vector Word 15) (t2 : Vector Word 14) (dump : Bytes) (s t : State) :
    (dump2osRun t1 t2 dump s).SameAnswer (dump2osRun t1 t2 dump t) := by
  unfold dump2osRun
  dsimp only
  split
  · exact .raised trivial
  split
  · exact .raised trivial
  split
  · exact .raised trivial
  split
  · exact .raised trivial
  · exact .ok trivial

theorem pageMsgs_fst_of_cfg {s t : State} (h : s.cfg = t.cfg) (key : Vector Byte 13) (model : Byte) (n a : Nat)
    (c : Bytes) : (pageMsgs key model n a c s).1 = (pageMsgs key model n a c t).1 := by
  induction n generalizing a c s t with
  | zero => rfl
  | succ n ih =>
    have hrest := ih (s := s.putPage key (pidxOfAddr a) (c.take Config.pageSize))
      (t := t.putPage key (pidxOfAddr a) (c.take Config.pageSize)) h (a + Config.pageSize) (c.drop Config.pageSize)
    simp only [pageMsgs, hrest, h]

theorem pageMsgs_snd_cfg (key : Vector Byte 13) (model : Byte) (n a : Nat) (c : Bytes) (s : State) :
    (pageMsgs key model n a c s).2.cfg = s.cfg := (pageMsgs_quiet key model n a c s).ported.cfg

theorem sectorMsgs_fst_of_cfg {s t : State} (h : s.cfg = t.cfg) (key : Vector Byte 13) (model : Byte) (n a : Nat)
    (d : Bytes) : (sectorMsgs key model n a d s).1 = (sectorMsgs key model n a d t).1 := by
  induction n generalizing a d s t with
  | zero => rfl
  | succ n ih =>
    simp only [sectorMsgs, h]
    refine congrArg₂ (· ++ ·) (pageMsgs_fst_of_cfg ?_ _ _ _ _ _) (ih ?_ _ _)
    · exact h
    · rw [pageMsgs_snd_cfg, pageMsgs_snd_cfg]
      exact h

/-- `DUMP2SYX` reads its dump, its operands and the configuration. -/
theorem dump2syxRun_sameAnswer {s t : State} (h : s.cfg = t.cfg) (key : Vector Byte 13) (base : Addr) (model : Byte)
    (dump : Bytes) : (dump2syxRun key base model dump s).SameAnswer (dump2syxRun key base model dump t) := by
  unfold dump2syxRun
  rw [h]
  dsimp only
  split
  · exact .raised trivial
  split
  · exact .raised trivial
  split
  · exact .raised trivial
  split
  · exact .raised trivial
  · rw [sectorMsgs_fst_of_cfg h]
    exact .ok trivial

/-! ## The two parts of a composite -/

/-- Bytes that a part would return alone pass to what follows it in a composite. -/
theorem andThen_onlyOut_andThen (r : Run Bytes) (k : Bytes → State → Run Output) :
    ((r.andThen onlyOut).andThen fun o s => k o.out s) = r.andThen k := by
  cases r <;> rfl

/-- A first part that fails ends the composite with its error and its events. -/
theorem finish_andThen_of_errKind {r r' : Run Output} (h : r.Both Alike r') (k : Output → State → Run Output)
    (e : ErrKind) (he : (finish r).errKind = some e) :
    (finish (r'.andThen k)).errKind = some e ∧ (finish (r'.andThen k)).lastEvents = (finish r).lastEvents := by
  cases h with
  | ok h => cases he
  | raised h => exact ⟨he, h.events.symm⟩

/-- A first part that returned answered the same within the composite. -/
theorem both_ok_of_returned {r r' : Run Output} {o : Output} (h : r.Both Alike r') (ho : (finish r).returned o) :
    ∃ s t, r = .ok o s ∧ r' = .ok o t ∧ Alike s t := by
  cases h with
  | ok h =>
    obtain rfl := (returned_returnOk_iff _ _ _).1 ho
    exact ⟨_, _, rfl, rfl, h⟩
  | raised h => exact absurd ho (not_returned_returnError _ _ _)

/-- The composite's end `v` is that of its second part, `u`, after the events of its first, `t`; of the bytes that the
second part returns the composite makes its own output by `f`. -/
structure EndsAfter (f : Bytes → Output) (t u v : State) : Prop where
  errKind : v.errKind = u.errKind
  events : v.lastEvents = t.lastEvents ++ u.lastEvents
  returned : ∀ o, u.returned o → ∃ out, o = Output.ofBytes out ∧ v.returned (f out)

/-- A second part that emits no event ends the composite as it ends alone. -/
theorem finish_endsAfter {q q' : Run Bytes} {s s' t : State} (f : Bytes → Output) (hq : q.SameAnswer q')
    (hs : q.Quiet s) (hs' : q'.Quiet s') (hbegin : s.dp.events = []) (ht : t.lastEvents = s'.dp.events) :
    EndsAfter f t (finish (q.andThen onlyOut)) (finish (q'.andThen fun out w => .ok (f out) w)) := by
  cases hq with
  | @ok out u u' _ =>
    have halone : u.dp.events = [] := (Quiet.events hs).trans hbegin
    have hafter : u'.dp.events = t.lastEvents := (Quiet.events hs').trans ht.symm
    refine ⟨rfl, ?_, fun o ho => ⟨out, (returned_returnOk_iff _ _ _).1 ho, returned_returnOk _ _⟩⟩
    exact hafter.trans (by simp [State.lastEvents, Result.ofOutput, halone])
  | @raised e u u' _ =>
    have halone : u.dp.events = [] := (Quiet.events hs).trans hbegin
    have hafter : u'.dp.events = t.lastEvents := (Quiet.events hs').trans ht.symm
    refine ⟨rfl, ?_, fun o ho => absurd ho (not_returned_returnError _ _ _)⟩
    exact hafter.trans (by simp [State.lastEvents, Result.ofErr, halone])

section Composites

variable {s t : State} {key : Vector Byte 13} {t1 : Vector Word 15} {t2 : Vector Word 14}

theorem cfg_of_exec {i : Instr} (h : exec i s = .next t) : t.cfg = s.cfg := (execEnds_of_next h).keepsHost.cfg

/-- `SYX2OS` is `SYX2DUMP`, then `DUMP2OS` on its output, with the base of the first (R240). -/
theorem syx2os_endsAfter (hkey : s.cfg.transportKey = some key) (h1 : s.cfg.osT1 = some t1) (h2 : s.cfg.osT2 = some t2)
    (ht : exec .syx2dump s = .next t) :
    ∃ v, exec .syx2os s = .next v ∧
      (∀ k, t.errKind = some k → v.errKind = some k ∧ v.lastEvents = t.lastEvents) ∧
      ∀ o, t.returned o → ∃ u, exec .dump2os { t with inBuf := o.out } = .next u ∧
        EndsAfter (fun image => { o with out := image }) t u v := by
  have hcfg := cfg_of_exec ht
  cases (exec_syx2dump hkey).symm.trans ht
  have hboth := syx2dumpRun_both key s.inBuf
    (begin_alike rfl rfl : Alike (s.latch (latched .syx2dump)).begin (s.latch (latched .syx2os)).begin)
  refine ⟨_, exec_syx2os hkey h1 h2, finish_andThen_of_errKind hboth _, fun o ho => ?_⟩
  obtain ⟨w, w', hw, hw', halike⟩ := both_ok_of_returned hboth ho
  rw [hw] at hcfg
  rw [hw, hw']
  refine ⟨_, exec_dump2os (s := { finish (.ok o w) with inBuf := o.out })
    ((congrArg ConfigRegs.osT1 hcfg).trans h1) ((congrArg ConfigRegs.osT2 hcfg).trans h2), ?_⟩
  exact finish_endsAfter _ (dump2osRun_sameAnswer t1 t2 o.out _ w') (dump2osRun_quiet t1 t2 o.out _)
    (dump2osRun_quiet t1 t2 o.out w') rfl halike.events

/-- `OS2SYX` is `OS2DUMP`, then `DUMP2SYX` on its output (R241). -/
theorem os2syx_endsAfter (hkey : s.cfg.transportKey = some key) (h1 : s.cfg.osT1 = some t1) (h2 : s.cfg.osT2 = some t2)
    (base : Addr) (model : Byte) (ht : exec .os2dump s = .next t) :
    ∃ v, exec (.os2syx base model) s = .next v ∧
      (∀ k, t.errKind = some k → v.errKind = some k ∧ v.lastEvents = t.lastEvents) ∧
      ∀ o, t.returned o → ∃ u, exec (.dump2syx base model) { t with inBuf := o.out } = .next u ∧
        EndsAfter Output.ofBytes t u v := by
  have hcfg := cfg_of_exec ht
  cases (exec_os2dump h1 h2).symm.trans ht
  have hboth := andThen_onlyOut_both (os2dumpRun_both t1 t2 s.inBuf
    (begin_alike rfl rfl : Alike (s.latch (latched .os2dump)).begin (s.latch (latched (.os2syx base model))).begin))
  have hos := exec_os2syx hkey h1 h2 base model
  rw [← andThen_onlyOut_andThen] at hos
  refine ⟨_, hos, finish_andThen_of_errKind hboth _, fun o ho => ?_⟩
  obtain ⟨w, w', hw, hw', halike⟩ := both_ok_of_returned hboth ho
  rw [hw] at hcfg
  rw [hw, hw']
  refine ⟨_, exec_dump2syx (s := { finish (.ok o w) with inBuf := o.out })
    ((congrArg ConfigRegs.transportKey hcfg).trans hkey) base model, ?_⟩
  refine finish_endsAfter _ (dump2syxRun_sameAnswer ?_ key base model o.out)
    (dump2syxRun_quiet key base model o.out _) (dump2syxRun_quiet key base model o.out w') rfl halike.events
  exact halike.cfg

end Composites

/-- Settles O37: each composite is its first part, then its second; `SYX2OS` without a key is refused as its first part
is. -/
theorem compositesActAsTheirParts : Obligations.CompositesActAsTheirParts := by
  intro s t1 t2 base model t h1 h2
  refine ⟨fun ht => ?_, fun ht hconfigured => ?_⟩
  · cases hkey : s.cfg.transportKey with
    | none =>
      obtain ⟨hdump, hos⟩ := exec_of_key_none hkey
      cases hdump.symm.trans ht
      exact ⟨_, hos, fun k hk => by simp at hk, fun o ho => absurd ho (not_returned_refuse _ o)⟩
    | some key =>
      obtain ⟨v, hv, herr, hok⟩ := syx2os_endsAfter hkey h1 h2 ht
      refine ⟨v, hv, herr, fun o ho => ?_⟩
      obtain ⟨u, hu, hends⟩ := hok o ho
      refine ⟨u, hu, hends.errKind, hends.events, fun image himage => ?_⟩
      obtain ⟨out, hout, hv⟩ := hends.returned _ himage
      cases hout
      exact hv
  · obtain ⟨key, hkey⟩ := Option.ne_none_iff_exists'.mp hconfigured
    obtain ⟨v, hv, herr, hok⟩ := os2syx_endsAfter hkey h1 h2 base model ht
    refine ⟨v, hv, herr, fun dump hdump => ?_⟩
    obtain ⟨u, hu, hends⟩ := hok _ hdump
    refine ⟨u, hu, hends.errKind, hends.events, fun o ho => ?_⟩
    obtain ⟨out, rfl, hv⟩ := hends.returned o ho
    exact hv

end Sys2Proof.Machine
end

section
/-! The bit transcoder (spec/40_bit_transcoder.md R120 to R127): how `EXPAND` and `PACK` end, their bytes group by group,
and the laws between them. -/

namespace Sys2Proof.Machine

/-! ## How the operations end -/

/-- A conversion that computes only `OUT` and leaves the datapath as it started ends OK with those bytes. -/
theorem finish_onlyOut_ok (s : State) (f : ParamRegs → ParamRegs) (out : Bytes) :
    finish ((Run.ok out (s.latch f).begin).andThen onlyOut) =
      s.endedOk (f s.par) (s.startDp .done) (onlyBytes out) := rfl

/-- A conversion that raises an error before it changes the datapath ends with that error. -/
theorem finish_onlyOut_raised (s : State) (f : ParamRegs → ParamRegs) (e : Err) :
    finish ((Run.raised e (s.latch f).begin).andThen onlyOut) = s.endedErr (f s.par) (s.startDp .failed) e := rfl

theorem expandRun_of_groups {input : Bytes} (h : input.length % 8 = 0) (s : State) :
    expandRun input s = .ok (expand input) s := if_neg (not_not_intro h)

theorem expandRun_of_partGroup {input : Bytes} (h : input.length % 8 ≠ 0) (s : State) :
    expandRun input s = .raised ⟨.formatError, .check .expandLength⟩ s := if_pos h

theorem packRun_of_groups {input : Bytes} (h : input.length % 7 = 0) (s : State) :
    packRun input s = .ok (pack input) s := if_neg (not_not_intro h)

theorem packRun_of_partGroup {input : Bytes} (h : input.length % 7 ≠ 0) (s : State) :
    packRun input s = .raised ⟨.formatError, .check .packLength⟩ s := if_pos h

theorem exec_expand (s : State) :
    exec .expand s =
      .next (finish ((expandRun s.inBuf (s.latch fun p => { p with opc := some 0x01 }).begin).andThen onlyOut)) := rfl

theorem exec_pack (s : State) :
    exec .pack s =
      .next (finish ((packRun s.inBuf (s.latch fun p => { p with opc := some 0x02 }).begin).andThen onlyOut)) := rfl

/-! ## Group by group -/

theorem byteAt_drop (bs : Bytes) (n i : Nat) : byteAt (bs.drop n) i = byteAt bs (n + i) := by
  simp only [byteAt, List.getD_eq_getElem?_getD, List.getElem?_drop]

/-- What is too short for an encoded group holds fewer than eight bytes. -/
theorem length_lt_eight {bs : Bytes}
    (h : ∀ e0 e1 e2 e3 e4 e5 e6 e7 rest, bs = e0 :: e1 :: e2 :: e3 :: e4 :: e5 :: e6 :: e7 :: rest → False) :
    bs.length < 8 := by
  cases bs with
  | nil => exact Nat.succ_pos 7
  | cons e0 bs =>
    have htail : bs.length < 7 := length_lt_seven fun _ _ _ _ _ _ _ _ hbs => h _ _ _ _ _ _ _ _ _ (by rw [hbs])
    exact Nat.succ_lt_succ htail

theorem expand_length (bs : Bytes) : (expand bs).length = bs.length / 8 * 7 := by
  fun_induction expand bs with
  | case1 e0 e1 e2 e3 e4 e5 e6 e7 rest ih =>
    simp only [List.length_append, List.length_cons, List.length_nil, ih]
    omega
  | case2 bs hfew => rw [Nat.div_eq_of_lt (length_lt_eight hfew)]; rfl

/-- What follows the first group of seven bytes is what follows the first group of eight, expanded (R120). -/
theorem drop_expand (bs : Bytes) : (expand bs).drop 7 = expand (bs.drop 8) := by
  fun_cases expand bs with
  | case1 => rfl
  | case2 _ hfew => rw [List.drop_eq_nil_of_le (length_lt_eight hfew).le]; rfl

/-- What follows the first group of eight bytes is what follows the first group of seven, packed (R122). -/
theorem drop_pack (bs : Bytes) : (pack bs).drop 8 = pack (bs.drop 7) := by
  fun_cases pack bs with
  | case1 => rfl
  | case2 _ hfew => rw [List.drop_eq_nil_of_le (length_lt_seven hfew).le]; rfl

/-- What holds of the first group holds of the first `g`, for `EXPAND` and `PACK` alike. -/
theorem drop_groups {code : Bytes → Bytes} {m n : Nat} (hcode : ∀ bs, (code bs).drop m = code (bs.drop n)) (bs : Bytes)
    (g : Nat) : (code bs).drop (m * g) = code (bs.drop (n * g)) := by
  induction g with
  | zero => rfl
  | succ g ih => rw [Nat.mul_succ, Nat.mul_succ, ← List.drop_drop, ih, hcode, List.drop_drop]

/-- Byte `j` of the first group (R120, R121). -/
theorem byteAt_expand_first {bs : Bytes} {j : Nat} (h : 8 ≤ bs.length) (hj : j < 7) :
    byteAt (expand bs) j = expandByte (byteAt bs 7) j (byteAt bs j) := by
  fun_cases expand bs with
  | case1 => interval_cases j <;> rfl
  | case2 _ hfew => exact absurd h (Nat.not_le.mpr (length_lt_eight hfew))

/-- Byte `j` of group `g` (R120, R121). -/
theorem byteAt_expand {bs : Bytes} {g j : Nat} (hg : g < bs.length / 8) (hj : j < 7) :
    byteAt (expand bs) (7 * g + j) = expandByte (byteAt bs (8 * g + 7)) j (byteAt bs (8 * g + j)) := by
  have hgroup : 8 ≤ (bs.drop (8 * g)).length := by rw [List.length_drop]; omega
  rw [← byteAt_drop, drop_groups drop_expand, byteAt_expand_first hgroup hj, byteAt_drop, byteAt_drop]

/-- Byte `j` of the first group, masked (R122). -/
theorem byteAt_pack_first {bs : Bytes} {j : Nat} (h : 7 ≤ bs.length) (hj : j < 7) :
    byteAt (pack bs) j = byteAt bs j &&& 0x7F := by
  fun_cases pack bs with
  | case1 => interval_cases j <;> rfl
  | case2 _ hfew => exact absurd h (Nat.not_le.mpr (length_lt_seven hfew))

/-- Byte `j` of group `g`, masked (R122). -/
theorem byteAt_pack {bs : Bytes} {g j : Nat} (hg : g < bs.length / 7) (hj : j < 7) :
    byteAt (pack bs) (8 * g + j) = byteAt bs (7 * g + j) &&& 0x7F := by
  have hgroup : 7 ≤ (bs.drop (7 * g)).length := by rw [List.length_drop]; omega
  rw [← byteAt_drop, drop_groups drop_pack, byteAt_pack_first hgroup hj, byteAt_drop]

/-- The flags byte is a data byte (R122). -/
theorem packFlags_getLsbD_seven (p0 p1 p2 p3 p4 p5 p6 : Byte) :
    (packFlags p0 p1 p2 p3 p4 p5 p6).getLsbD 7 = false := by
  simp only [packFlags, getLsbD_append_bit_succ]
  rfl

/-- The flags byte of the first group: bit `k` is bit 7 of byte `6 - k`, and bit 7 is 0 (R122). -/
theorem flags_pack_first {bs : Bytes} (h : 7 ≤ bs.length) :
    (∀ k, k < 7 → (byteAt (pack bs) 7).getLsbD k = (byteAt bs (6 - k)).getLsbD 7) ∧
      (byteAt (pack bs) 7).getLsbD 7 = false := by
  fun_cases pack bs with
  | case1 p0 p1 p2 p3 p4 p5 p6 rest =>
    obtain ⟨h0, h1, h2, h3, h4, h5, h6⟩ := packFlags_getLsbD p0 p1 p2 p3 p4 p5 p6
    refine ⟨fun k hk => ?_, packFlags_getLsbD_seven p0 p1 p2 p3 p4 p5 p6⟩
    interval_cases k
    exacts [h6, h5, h4, h3, h2, h1, h0]
  | case2 _ hfew => exact absurd h (Nat.not_le.mpr (length_lt_seven hfew))

/-- The flags byte of group `g` (R122). -/
theorem flags_pack {bs : Bytes} {g : Nat} (hg : g < bs.length / 7) :
    (∀ k, k < 7 → (byteAt (pack bs) (8 * g + 7)).getLsbD k = (byteAt bs (7 * g + (6 - k))).getLsbD 7) ∧
      (byteAt (pack bs) (8 * g + 7)).getLsbD 7 = false := by
  have hgroup : 7 ≤ (bs.drop (7 * g)).length := by rw [List.length_drop]; omega
  simpa only [← drop_groups drop_pack, byteAt_drop] using flags_pack_first hgroup

/-! ## The two operations -/

/-- Settles O10: the length check decides how `EXPAND` ends, and its bytes are read group by group. -/
theorem expandResult : Obligations.ExpandResult := by
  refine ⟨fun _ => rfl, fun s => ⟨fun hgroups => ⟨?_, expand_length s.inBuf, fun g j => byteAt_expand⟩,
    fun hpart => ⟨.check .expandLength, ?_⟩⟩⟩
  · rw [exec_expand, expandRun_of_groups hgroups, finish_onlyOut_ok]
  · rw [exec_expand, expandRun_of_partGroup hpart, finish_onlyOut_raised]

/-- Settles O11: the length check decides how `PACK` ends, and its bytes are read group by group. -/
theorem packResult : Obligations.PackResult := by
  refine ⟨fun _ => rfl, fun s => ⟨fun hgroups => ⟨?_, pack_length s.inBuf, fun g hg => ⟨fun j => byteAt_pack hg,
    flags_pack hg⟩⟩, fun hpart => ⟨.check .packLength, ?_⟩⟩⟩
  · rw [exec_pack, packRun_of_groups hgroups, finish_onlyOut_ok]
  · rw [exec_pack, packRun_of_partGroup hpart, finish_onlyOut_raised]

/-! ## The laws between them -/

/-- A data byte is one whose bit 7 is clear (R81). -/
theorem toNat_lt_iff_getLsbD_seven (b : Byte) : b.toNat < 0x80 ↔ b.getLsbD 7 = false := by
  revert b; decide

theorem and_mask_lt (p : Byte) : (p &&& 0x7F).toNat < 0x80 := by
  revert p; decide

/-- Every packed byte is a data byte (R124). -/
theorem pack_lt (bs : Bytes) : ∀ b ∈ pack bs, b.toNat < 0x80 := by
  fun_induction pack bs with
  | case1 p0 p1 p2 p3 p4 p5 p6 rest ih =>
    have hflags := (toNat_lt_iff_getLsbD_seven _).mpr (packFlags_getLsbD_seven p0 p1 p2 p3 p4 p5 p6)
    simp only [List.forall_mem_append, List.forall_mem_cons, and_mask_lt, hflags, true_and]
    exact ⟨List.forall_mem_nil _, ih⟩
  | case2 => exact List.forall_mem_nil _

/-- An expanded data byte carries its flag in bit 7 (R121). -/
theorem expandByte_getLsbD_seven {e : Byte} (h : e.toNat < 0x80) (flags : Byte) (j : Nat) :
    (expandByte flags j e).getLsbD 7 = flags.getLsbD (6 - j) := by
  have hbit : ∀ (c : Bool) (e : Byte), e.toNat < 0x80 → (e ||| (if c then 0x80 else 0x00)).getLsbD 7 = c := by decide
  exact hbit _ e h

/-- Masking takes an expanded data byte back. -/
theorem expandByte_and_mask {e : Byte} (h : e.toNat < 0x80) (flags : Byte) (j : Nat) :
    expandByte flags j e &&& 0x7F = e := by
  have hmask : ∀ (c : Bool) (e : Byte), e.toNat < 0x80 → (e ||| (if c then 0x80 else 0x00)) &&& 0x7F = e := by decide
  exact hmask _ e h

/-- The flags byte of an expanded group of data bytes is the one it was expanded with. -/
theorem packFlags_expandByte {e0 e1 e2 e3 e4 e5 e6 e7 : Byte} (h0 : e0.toNat < 0x80) (h1 : e1.toNat < 0x80)
    (h2 : e2.toNat < 0x80) (h3 : e3.toNat < 0x80) (h4 : e4.toNat < 0x80) (h5 : e5.toNat < 0x80) (h6 : e6.toNat < 0x80)
    (h7 : e7.toNat < 0x80) :
    packFlags (expandByte e7 0 e0) (expandByte e7 1 e1) (expandByte e7 2 e2) (expandByte e7 3 e3) (expandByte e7 4 e4)
      (expandByte e7 5 e5) (expandByte e7 6 e6) = e7 := by
  obtain ⟨b6, b5, b4, b3, b2, b1, b0⟩ := packFlags_getLsbD (expandByte e7 0 e0) (expandByte e7 1 e1)
    (expandByte e7 2 e2) (expandByte e7 3 e3) (expandByte e7 4 e4) (expandByte e7 5 e5) (expandByte e7 6 e6)
  refine BitVec.eq_of_getLsbD_eq fun i hi => ?_
  interval_cases i
  · exact b0.trans (expandByte_getLsbD_seven h6 e7 6)
  · exact b1.trans (expandByte_getLsbD_seven h5 e7 5)
  · exact b2.trans (expandByte_getLsbD_seven h4 e7 4)
  · exact b3.trans (expandByte_getLsbD_seven h3 e7 3)
  · exact b4.trans (expandByte_getLsbD_seven h2 e7 2)
  · exact b5.trans (expandByte_getLsbD_seven h1 e7 1)
  · exact b6.trans (expandByte_getLsbD_seven h0 e7 0)
  · rw [packFlags_getLsbD_seven, (toNat_lt_iff_getLsbD_seven e7).mp h7]

/-- `PACK` undoes `EXPAND` on whole groups of data bytes (R126). -/
theorem pack_expand {bs : Bytes} (hgroups : bs.length % 8 = 0) (hdata : ∀ b ∈ bs, b.toNat < 0x80) :
    pack (expand bs) = bs := by
  fun_induction expand bs with
  | case1 e0 e1 e2 e3 e4 e5 e6 e7 rest ih =>
    have hrest : rest.length % 8 = 0 := by simp only [List.length_cons] at hgroups; omega
    simp only [List.forall_mem_cons] at hdata
    obtain ⟨h0, h1, h2, h3, h4, h5, h6, h7, hdata⟩ := hdata
    simp only [List.cons_append, List.nil_append, pack, ih hrest hdata, packFlags_expandByte h0 h1 h2 h3 h4 h5 h6 h7,
      expandByte_and_mask h0, expandByte_and_mask h1, expandByte_and_mask h2, expandByte_and_mask h3,
      expandByte_and_mask h4, expandByte_and_mask h5, expandByte_and_mask h6]
  | case2 bs hfew =>
    have hlen := length_lt_eight hfew
    obtain rfl : bs = [] := List.eq_nil_of_length_eq_zero (by omega)
    rfl

/-- `PACK` undoes `EXPAND` exactly on data bytes, since it answers nothing else (R124, R126). -/
theorem pack_expand_iff {bs : Bytes} (hgroups : bs.length % 8 = 0) :
    pack (expand bs) = bs ↔ ∀ b ∈ bs, b.toNat < 0x80 :=
  ⟨fun h => h ▸ pack_lt (expand bs), pack_expand hgroups⟩

/-- Settles O12, law by law. -/
theorem transcoderLaws : Obligations.TranscoderLaws := by
  refine ⟨pack_lt, fun y hy => ⟨expand_pack hy, pack_length y⟩, fun x hx => ⟨pack_expand_iff hx, expand_length x⟩,
    by decide, fun y hy => ?_, fun y hy => ?_⟩
  · rw [pack_length, hy]
  · rw [pack_length, hy]

end Sys2Proof.Machine
end

section
/-! The stream cipher (spec/41_stream_cipher.md R140 to R146): the bytes of both ciphers, the registers they leave, and
the laws of `WCIPHER`. -/

namespace Sys2Proof.Machine

theorem byteAt_cons_succ (b : Byte) (bs : Bytes) (i : Nat) : byteAt (b :: bs) (i + 1) = byteAt bs i := rfl

/-! ## The transport cipher -/

/-- Byte `i` stands under the key byte `i` places after the first (R140). -/
theorem byteAt_tcipherFrom (key : Vector Byte 13) (k : Fin 13) {bs : Bytes} {i : Nat} (hi : i < bs.length) :
    byteAt (tcipherFrom key k bs).1 i = byteAt bs i ^^^ key[(k.val + i) % 13]'(Nat.mod_lt _ (by decide)) := by
  induction bs generalizing k i with
  | nil => exact absurd hi (Nat.not_lt_zero i)
  | cons b rest ih =>
    cases i with
    | zero =>
      simp only [Nat.add_zero, Nat.mod_eq_of_lt k.isLt]
      rfl
    | succ i =>
      have hkey : ((nextTki k).val + i) % 13 = (k.val + (i + 1)) % 13 := by simp only [nextTki]; omega
      simp only [tcipherFrom, byteAt_cons_succ, ih (nextTki k) (Nat.lt_of_succ_lt_succ hi), hkey]

/-- Each byte moves the key index one place on (R140). -/
theorem tcipherFrom_tki (key : Vector Byte 13) (k : Fin 13) (bs : Bytes) :
    (tcipherFrom key k bs).2.val = (k.val + bs.length) % 13 := by
  induction bs generalizing k with
  | nil => exact (Nat.mod_eq_of_lt k.isLt).symm
  | cons b rest ih =>
    simp only [tcipherFrom, ih, nextTki, List.length_cons]
    omega

theorem byteAt_tcipher (key : Vector Byte 13) {bs : Bytes} {i : Nat} (hi : i < bs.length) :
    byteAt (tcipher key bs) i = byteAt bs i ^^^ key[i % 13]'(Nat.mod_lt _ (by decide)) := by
  have hfrom := byteAt_tcipherFrom key 0 hi
  simp only [Fin.val_zero, Nat.zero_add] at hfrom
  exact hfrom

theorem tkiAfter_val (key : Vector Byte 13) (bs : Bytes) : (tkiAfter key bs).val = bs.length % 13 := by
  rw [tkiAfter, tcipherFrom_tki, Fin.val_zero, Nat.zero_add]

/-- With a key, `TCIPHER` ends OK on every input. -/
theorem exec_tcipher {s : State} {key : Vector Byte 13} (hkey : s.cfg.transportKey = some key) :
    exec .tcipher s = .next (s.endedOk { s.par with opc := some 0x03 }
      { s.startDp .done with tki := tkiAfter key s.inBuf } (onlyBytes (tcipher key s.inBuf))) :=
  congrArg Host.Outcome.next (withKey_of_some (s := s.latch (latched .tcipher)) hkey _)

/-- Settles O13: the loop gives byte `i` the key byte `i mod 13` and counts the length modulo 13. -/
theorem tcipherResult : Obligations.TcipherResult :=
  ⟨fun _ => rfl, fun s key hkey => ⟨tkiAfter key s.inBuf, exec_tcipher hkey, tkiAfter_val key s.inBuf,
    tcipher_length key s.inBuf, fun _ => byteAt_tcipher key⟩⟩

/-! ## One step of the write-cipher register -/

/-- The register as the step shifts it: the polynomial is added when the low bit is set (R144). -/
def wfeed (w : Half) : Half := if w.getLsbD 0 then w ^^^ Config.wpoly else w

theorem wstep_eq (w : Half) : wstep w = wfeed w >>> 1 := rfl

/-- The polynomial is odd, so what is shifted is even. -/
theorem wfeed_getLsbD_zero (w : Half) : (wfeed w).getLsbD 0 = false := by
  unfold wfeed
  split
  next hodd => rw [BitVec.getLsbD_xor, hodd]; rfl
  next heven => exact Bool.eq_false_iff.mpr heven

theorem wfeed_eq_zero_iff (w : Half) : wfeed w = 0 ↔ w = 0 ∨ w = Config.wpoly := by
  unfold wfeed
  split
  next hodd =>
    have hne : w ≠ 0 := fun h => by subst h; exact absurd hodd (by decide)
    exact BitVec.xor_eq_zero_iff.trans (or_iff_right hne).symm
  next heven =>
    have hne : w ≠ Config.wpoly := fun h => heven (by subst h; rfl)
    exact (or_iff_left hne).symm

/-- The shift loses no set bit of an even register. -/
theorem ushiftRight_one_eq_zero_iff {v : Half} (heven : v.getLsbD 0 = false) : v >>> 1 = 0 ↔ v = 0 := by
  refine ⟨fun h => BitVec.eq_of_getLsbD_eq fun i _ => ?_, fun h => by rw [h]; rfl⟩
  cases i with
  | zero => exact heven
  | succ i =>
    calc v.getLsbD (i + 1) = (v >>> 1).getLsbD i := by rw [BitVec.getLsbD_ushiftRight, Nat.add_comm]
      _ = (0#16).getLsbD (i + 1) := by rw [h]; simp

/-- Settles O14: what the step shifts is even, so it gives 0 exactly when that is 0. -/
theorem writeCipherStep : Obligations.WriteCipherStep := by
  refine fun w => ⟨?_, ?_, ?_⟩
  · rw [wstep_eq, BitVec.toNat_ushiftRight, Nat.shiftRight_one]
    rfl
  · rw [wstep_eq, BitVec.getLsbD_ushiftRight]
    exact BitVec.getLsbD_of_ge _ _ le_rfl
  · exact (ushiftRight_one_eq_zero_iff (wfeed_getLsbD_zero w)).trans (wfeed_eq_zero_iff w)

/-! ## The write cipher -/

/-- What is too short for a pair holds fewer than two bytes. -/
theorem length_lt_two {bs : Bytes} (h : ∀ a b rest, bs = a :: b :: rest → False) : bs.length < 2 :=
  match bs, h with
  | [], _ | [_], _ => by simp
  | _ :: _ :: _, h => (h _ _ _ rfl).elim

theorem wcipherFrom_length (w : Half) {bs : Bytes} (heven : bs.length % 2 = 0) :
    (wcipherFrom w bs).1.length = bs.length := by
  fun_induction wcipherFrom w bs with
  | case1 w a b rest ih =>
    have hrest : rest.length % 2 = 0 := by simp only [List.length_cons] at heven; omega
    simp only [strictly_eq, List.length_cons, ih _ hrest]
  | case2 w bs hfew =>
    have hlen := length_lt_two hfew
    rw [List.length_nil]
    omega

/-- Each pair steps the register once (R145). -/
theorem wcipherFrom_wreg (w : Half) (bs : Bytes) : (wcipherFrom w bs).2 = wstep^[bs.length / 2] w := by
  fun_induction wcipherFrom w bs with
  | case1 w a b rest ih =>
    have hpairs : (a :: b :: rest).length / 2 = rest.length / 2 + 1 := Nat.add_div_right _ Nat.two_pos
    simp only [strictly_eq, ih, hpairs, Function.iterate_succ_apply]
  | case2 w bs hfew => rw [Nat.div_eq_of_lt (length_lt_two hfew)]; rfl

/-- Byte `i` of the keystream from a register value: pair `i / 2` reads the register after its own step, low byte first
(R145). -/
def wkeyByte (w : Half) (i : Nat) : Byte := byteOf (i % 2) (wstep^[i / 2 + 1] w)

theorem wkeyByte_low (w : Half) (j : Nat) : wkeyByte w (2 * j) = byteOf 0 (wstep^[j + 1] w) := by
  rw [wkeyByte, Nat.mul_mod_right, Nat.mul_div_cancel_left j Nat.two_pos]

theorem wkeyByte_high (w : Half) (j : Nat) : wkeyByte w (2 * j + 1) = byteOf 1 (wstep^[j + 1] w) := by
  rw [wkeyByte, Nat.mul_add_mod, Nat.mul_add_div Nat.two_pos]

/-- A later pair is an earlier one of the stepped register. -/
theorem wkeyByte_wstep (w : Half) (i : Nat) : wkeyByte (wstep w) i = wkeyByte w (i + 2) := by
  rw [wkeyByte, wkeyByte, Nat.add_mod_right, Nat.add_div_right i Nat.two_pos]
  rfl

/-- Every byte of an even-length input stands under the keystream byte of its position. -/
theorem byteAt_wcipherFrom (w : Half) {bs : Bytes} {i : Nat} (heven : bs.length % 2 = 0) (hi : i < bs.length) :
    byteAt (wcipherFrom w bs).1 i = byteAt bs i ^^^ wkeyByte w i := by
  fun_induction wcipherFrom w bs generalizing i with
  | case1 w a b rest ih =>
    simp only [List.length_cons] at heven hi
    rw [strictly_eq]
    match i with
    | 0 | 1 => rfl
    | i + 2 =>
      have hrest := ih (wstep w) (i := i) (by omega) (by omega)
      simp only [byteAt_cons_succ, hrest, wkeyByte_wstep]
  | case2 w bs hfew =>
    have hlen := length_lt_two hfew
    omega

/-- A second run meets each byte with the same key byte. -/
theorem wcipherFrom_wcipherFrom (w : Half) {bs : Bytes} (heven : bs.length % 2 = 0) :
    (wcipherFrom w (wcipherFrom w bs).1).1 = bs := by
  fun_induction wcipherFrom w bs with
  | case1 w a b rest ih =>
    have hrest : rest.length % 2 = 0 := by simp only [List.length_cons] at heven; omega
    simp only [strictly_eq, wcipherFrom, ih _ hrest, BitVec.xor_assoc, BitVec.xor_self, BitVec.xor_zero]
  | case2 w bs hfew =>
    have hlen := length_lt_two hfew
    exact (List.eq_nil_of_length_eq_zero (by omega)).symm

/-- A run does its first `n` pairs as it would alone. -/
theorem wcipherFrom_take (w : Half) (bs : Bytes) (n : Nat) :
    (wcipherFrom w (bs.take (2 * n))).1 = (wcipherFrom w bs).1.take (2 * n) := by
  induction n generalizing w bs with
  | zero => rfl
  | succ n ih =>
    match bs with
    | [] | [_] => rfl
    | a :: b :: rest => simp only [Nat.mul_succ, List.take_succ_cons, wcipherFrom, strictly_eq, ih]

/-! ## The operation -/

theorem wcipherRun_of_pairs {input : Bytes} (h : input.length % 2 = 0) (seed : Half) (s : State) :
    wcipherRun seed input s = .ok (wcipher seed input) (s.putWreg (wregAfter seed input)) :=
  if_neg (not_not_intro h)

theorem wcipherRun_of_partPair {input : Bytes} (h : input.length % 2 ≠ 0) (seed : Half) (s : State) :
    wcipherRun seed input s = .raised ⟨.formatError, .check .oddLength⟩ s := if_pos h

theorem exec_wcipher (seed : Half) (s : State) :
    exec (.wcipher seed) s =
      .next (finish ((wcipherRun seed s.inBuf (s.latch (latched (.wcipher seed))).begin).andThen onlyOut)) := rfl

theorem exec_wcipher_of_pairs {s : State} (h : s.inBuf.length % 2 = 0) (seed : Half) :
    exec (.wcipher seed) s = .next (s.endedOk { s.par with opc := some 0x04, seed := some seed }
      { s.startDp .done with wreg := wregAfter seed s.inBuf } (onlyBytes (wcipher seed s.inBuf))) := by
  rw [exec_wcipher, wcipherRun_of_pairs h]
  rfl

theorem exec_wcipher_of_partPair {s : State} (h : s.inBuf.length % 2 ≠ 0) (seed : Half) :
    exec (.wcipher seed) s = .next (s.endedErr { s.par with opc := some 0x04, seed := some seed }
      (s.startDp .failed) ⟨.formatError, .check .oddLength⟩) := by
  rw [exec_wcipher, wcipherRun_of_partPair h, finish_onlyOut_raised]
  rfl

/-- Settles O15: the length check decides how `WCIPHER` ends, and its bytes are read off the keystream. -/
theorem wcipherResult : Obligations.WcipherResult := by
  refine fun s seed => ⟨decodeDescriptor_encode (i := .wcipher seed) rfl rfl, fun hpairs => ?_, fun hpart =>
    ⟨_, exec_wcipher_of_partPair hpart seed⟩⟩
  refine ⟨?_, wcipherFrom_length (wseed seed) hpairs, fun j hj => ⟨?_, ?_⟩⟩
  · have hwreg : wregAfter seed s.inBuf = wstep^[s.inBuf.length / 2] (if seed = 0 then 0x545A else seed) :=
      wcipherFrom_wreg (wseed seed) s.inBuf
    rw [exec_wcipher_of_pairs hpairs, hwreg]
  · exact (byteAt_wcipherFrom (wseed seed) hpairs (by omega)).trans (congrArg _ (wkeyByte_low _ j))
  · exact (byteAt_wcipherFrom (wseed seed) hpairs (by omega)).trans (congrArg _ (wkeyByte_high _ j))

/-! ## The laws of the ciphers -/

/-- What `WCIPHER` adds to a byte depends on the seed and the position only (R146). -/
theorem wcipher_xor_input (seed : Half) {bs : Bytes} {i : Nat} (heven : bs.length % 2 = 0) (hi : i < bs.length) :
    byteAt (wcipher seed bs) i ^^^ byteAt bs i = wkeyByte (wseed seed) i := by
  rw [wcipher, byteAt_wcipherFrom _ heven hi, BitVec.xor_comm, ← BitVec.xor_assoc, BitVec.xor_self, BitVec.zero_xor]

/-- Settles O16, law by law. -/
theorem ciphersAreSelfInverse : Obligations.CiphersAreSelfInverse :=
  ⟨tcipher_tcipher, fun seed x hx => ⟨wcipherFrom_wcipherFrom (wseed seed) hx, wcipherFrom_take (wseed seed) x,
    fun _ _ hy hix hiy => (wcipher_xor_input seed hx hix).trans (wcipher_xor_input seed hy hiy).symm⟩⟩

end Sys2Proof.Machine
end

section
/-! The page checksum (spec/42_page_checksum.md R160 to R166): what a round does to a register of eight bits, the
operations `CKUPD` and `CKPAGE`, and why a change to the last byte always shows. -/

namespace Sys2Proof.Machine

/-! ## One round -/

/-- The register that the round tests: the polynomial is added when the input bit is bit 0 of the register (R161). -/
def ckFeed (d : Bool) (ck : BitVec 9) : BitVec 9 := if d = ck.getLsbD 0 then ck ^^^ Config.ckpoly else ck

theorem ckRound_eq (d : Bool) (ck : BitVec 9) :
    ckRound d ck = (if (ckFeed d ck).getLsbD 0 then ckFeed d ck ||| 0x100 else ckFeed d ck) >>> 1 := by
  have hfeed : (if (d ^^ ck.getLsbD 0) = false then ck ^^^ Config.ckpoly else ck) = ckFeed d ck :=
    if_congr bne_eq_false_iff_eq rfl rfl
  rw [ckRound, hfeed]

/-- What a round adds before its test, from its input bit and bit 0 of the register. -/
def ckTap (d low : Bool) : BitVec 9 := if d = low then Config.ckpoly else 0

/-- What a round adds after its test. -/
def ckTop (d : Bool) : BitVec 9 := if d then 0 else 0x100

theorem ckFeed_eq_xor (d : Bool) (ck : BitVec 9) : ckFeed d ck = ck ^^^ ckTap d (ck.getLsbD 0) := by
  unfold ckFeed ckTap
  split
  · rfl
  · exact BitVec.xor_zero.symm

/-- The polynomial is odd, so the tested bit is the complement of the input bit, whatever the register held. -/
theorem ckFeed_getLsbD_zero (d : Bool) (ck : BitVec 9) : (ckFeed d ck).getLsbD 0 = !d := by
  have htap : ∀ d low : Bool, (low ^^ (ckTap d low).getLsbD 0) = !d := by decide
  rw [ckFeed_eq_xor, BitVec.getLsbD_xor, htap]

theorem ckFeed_getLsbD_eight (d : Bool) {ck : BitVec 9} (hck : ck.getLsbD 8 = false) :
    (ckFeed d ck).getLsbD 8 = false := by
  have htap : ∀ d low : Bool, (ckTap d low).getLsbD 8 = false := by decide
  rw [ckFeed_eq_xor, BitVec.getLsbD_xor, hck, htap, Bool.false_xor]

/-- Where bit 8 is free, setting it is adding it. -/
theorem or_ckTop_eq_xor (d : Bool) {x : BitVec 9} (hx : x.getLsbD 8 = false) : x ||| ckTop d = x ^^^ ckTop d := by
  refine BitVec.eq_of_getLsbD_eq fun i hi => ?_
  rw [BitVec.getLsbD_or, BitVec.getLsbD_xor]
  by_cases h8 : i = 8
  · rw [h8, hx, Bool.false_or, Bool.false_xor]
  · have hlow : ∀ d, ∀ i < 9, i ≠ 8 → (ckTop d).getLsbD i = false := by decide
    rw [hlow d i hi h8, Bool.or_false, Bool.xor_false]

/-- On a register of eight bits a round is an addition and a shift. -/
theorem ckRound_eq_xor (d : Bool) {ck : BitVec 9} (hck : ck.getLsbD 8 = false) :
    ckRound d ck = (ckFeed d ck ^^^ ckTop d) >>> 1 := by
  rw [ckRound_eq, ckFeed_getLsbD_zero, ← or_ckTop_eq_xor d (ckFeed_getLsbD_eight d hck)]
  cases d with
  | false => rfl
  | true => exact congrArg (BitVec.ushiftRight · 1) BitVec.or_zero.symm

/-- Bit 7 after a round is the complement of the input bit. -/
theorem ckRound_getLsbD_seven (d : Bool) {ck : BitVec 9} (hck : ck.getLsbD 8 = false) :
    (ckRound d ck).getLsbD 7 = !d := by
  have htop : ∀ d : Bool, (ckTop d).getLsbD 8 = !d := by decide
  rw [ckRound_eq_xor d hck, BitVec.getLsbD_ushiftRight, BitVec.getLsbD_xor, ckFeed_getLsbD_eight d hck, htop,
    Bool.false_xor]

/-- The difference of two rounds is a round on the difference of the registers, under the bit that says whether the two
input bits are the same. -/
theorem ckRound_xor_ckRound (d d' : Bool) {ck ck' : BitVec 9} (hck : ck.getLsbD 8 = false)
    (hck' : ck'.getLsbD 8 = false) : ckRound d ck ^^^ ckRound d' ck' = ckRound (d == d') (ck ^^^ ck') := by
  have hdiff : (ck ^^^ ck').getLsbD 8 = false := by rw [BitVec.getLsbD_xor, hck, hck']; rfl
  have htap : ∀ d d' low low' : Bool, ckTap d low ^^^ ckTap d' low' = ckTap (d == d') (low ^^ low') := by decide
  have htop : ∀ d d' : Bool, ckTop d ^^^ ckTop d' = ckTop (d == d') := by decide
  rw [ckRound_eq_xor d hck, ckRound_eq_xor d' hck', ckRound_eq_xor _ hdiff, ← BitVec.ushiftRight_xor_distrib,
    ckFeed_eq_xor, ckFeed_eq_xor, ckFeed_eq_xor, BitVec.getLsbD_xor, ← htap, ← htop]
  ac_rfl

/-! ## The rounds of a byte -/

/-- The order of R163, as `CK_BIT_ORDER` names it. -/
theorem bitIndices_eq (order : Config.BitOrder) :
    bitIndices order = (List.range 8).map fun i => if order = .lsbFirst then i else 7 - i := by
  cases order <;> rfl

theorem ckByte_eq_range (order : Config.BitOrder) (b c : Byte) :
    ckByte order b c = (List.range 8).foldl
      (fun k i => ckRound (b.getLsbD (if order = .lsbFirst then i else 7 - i)) k) (c.setWidth 9) := by
  rw [ckByte, ckByteIn, bitIndices_eq, List.foldl_map]

theorem setWidth_getLsbD_eight (c : Byte) : (c.setWidth 9).getLsbD 8 = false := by
  rw [BitVec.getLsbD_setWidth, BitVec.getLsbD_of_ge c 8 le_rfl, Bool.and_false]

/-- Bit 7 of an updated checksum is the complement of the last bit in (R162). -/
theorem ckByte_getLsbD_seven (order : Config.BitOrder) (b c : Byte) :
    (ckByte order b c).getLsbD 7 = !b.getLsbD (if order = .lsbFirst then 7 else 0) := by
  cases order <;> exact ckRound_getLsbD_seven _ (ckRound_bit8 _ _)

/-- The difference of two runs of rounds is a run of rounds on the difference of the registers. -/
theorem foldl_ckRound_xor_foldl_ckRound (f g : Nat → Bool) (idxs : List Nat) {ck ck' : BitVec 9}
    (hck : ck.getLsbD 8 = false) (hck' : ck'.getLsbD 8 = false) :
    idxs.foldl (fun k i => ckRound (f i) k) ck ^^^ idxs.foldl (fun k i => ckRound (g i) k) ck' =
      idxs.foldl (fun k i => ckRound (f i == g i) k) (ck ^^^ ck') := by
  induction idxs generalizing ck ck' with
  | nil => rfl
  | cons i rest ih =>
    simp only [List.foldl_cons]
    rw [ih (ckRound_bit8 _ _) (ckRound_bit8 _ _), ckRound_xor_ckRound _ _ hck hck']

/-- The difference that a byte difference `e` makes in one update from the same register: the rounds from 0, where an
unchanged bit enters as 1. -/
def ckDiff (order : Config.BitOrder) (e : Byte) : BitVec 9 :=
  (bitIndices order).foldl (fun k i => ckRound (!e.getLsbD i) k) 0

theorem ckByte_xor_ckByte (order : Config.BitOrder) (b b' c : Byte) :
    ckByte order b c ^^^ ckByte order b' c = ckDiff order (b ^^^ b') := by
  have hsame : ∀ i, (b.getLsbD i == b'.getLsbD i) = !(b ^^^ b').getLsbD i := fun i => by
    rw [BitVec.getLsbD_xor]
    exact (Bool.not_not _).symm
  rw [ckByte, ckByteIn, ckByte, ckByteIn,
    foldl_ckRound_xor_foldl_ckRound _ _ _ (setWidth_getLsbD_eight c) (setWidth_getLsbD_eight c), BitVec.xor_self]
  simp only [hsame]
  rfl

/-- No difference of bytes is lost in the eight bits of the register. The rounds from 0 no longer depend on the
checksum before, so the 256 differences are all there is to check. -/
theorem eq_zero_of_ckDiff (order : Config.BitOrder) (e : Byte) (h : (ckDiff order e).setWidth 8 = (0 : Byte)) :
    e = 0 := by
  revert e
  cases order with
  | lsbFirst => decide +kernel
  | msbFirst => decide +kernel

/-- From one checksum, two different bytes give two different checksums (R166). -/
theorem ckByte_injective (order : Config.BitOrder) (c : Byte) {b b' : Byte}
    (h : (ckByte order b c).setWidth 8 = (ckByte order b' c).setWidth 8) : b = b' := by
  have hdiff : (ckDiff order (b ^^^ b')).setWidth 8 = (0 : Byte) := by
    rw [← ckByte_xor_ckByte order b b' c, BitVec.setWidth_xor, h, BitVec.xor_self]
    rfl
  exact BitVec.xor_eq_zero_iff.mp (eq_zero_of_ckDiff order _ hdiff)

/-! ## The bytes of a sequence -/

theorem ckFrom_setWidth (order : Config.BitOrder) (bs : Bytes) (ck : BitVec 9) :
    (ckFrom order ck bs).setWidth 8 =
      bs.foldl (fun c b => (ckByte order b c).setWidth 8) (ck.setWidth 8 : Byte) := by
  induction bs generalizing ck with
  | nil => rfl
  | cons b rest ih => rw [ckFrom, strictly_eq, ih, List.foldl_cons]

/-- The checksum of a sequence is the update, byte after byte, from 0 (R164). -/
theorem ckPage_eq_foldl (order : Config.BitOrder) (bs : Bytes) :
    ckPage order bs = bs.foldl (fun c b => (ckByte order b c).setWidth 8) (0 : Byte) :=
  ckFrom_setWidth order bs 0

/-- The last byte enters the checksum of what stands before it. -/
theorem ckPage_concat (order : Config.BitOrder) (bs : Bytes) (b : Byte) :
    ckPage order (bs ++ [b]) = (ckByte order b (ckPage order bs)).setWidth 8 := by
  rw [ckPage_eq_foldl, ckPage_eq_foldl, List.foldl_concat]

/-- Two beginnings of one checksum leave the same checksum after the same rest. -/
theorem ckPage_append_congr {order : Config.BitOrder} {xs ys : Bytes} (h : ckPage order xs = ckPage order ys)
    (rest : Bytes) : ckPage order (xs ++ rest) = ckPage order (ys ++ rest) := by
  simp only [ckPage_eq_foldl, List.foldl_append] at h ⊢
  rw [h]

/-! ## The two operations -/

theorem exec_ckupd (b c : Byte) (s : State) :
    exec (.ckupd b c) s = .next (s.endedOk { s.par with opc := some 0x05, bytein := some b, ckin := some c }
      { s.startDp .done with ck := ckByte s.cfg.ckBitOrder b c }
      (onlyBytes [(ckByte s.cfg.ckBitOrder b c).setWidth 8])) := rfl

theorem exec_ckpage (s : State) :
    exec .ckpage s = .next (s.endedOk { s.par with opc := some 0x06 }
      { s.startDp .done with ck := ckAfter s.cfg.ckBitOrder s.inBuf }
      (onlyBytes [ckPage s.cfg.ckBitOrder s.inBuf])) := rfl

/-- Settles O17: the operation, its last bit, one round, and the example. -/
theorem ckupdResult : Obligations.CkupdResult := by
  refine ⟨fun _ _ => rfl, fun s b c => ⟨ckByte s.cfg.ckBitOrder b c, exec_ckupd b c s, ckByte_eq_range _ b c, rfl,
    ckByte_bit8 _ b c, ckByte_getLsbD_seven _ b c⟩, fun d ck => ?_, rfl⟩
  rw [ckRound_eq, BitVec.toNat_ushiftRight, Nat.shiftRight_one]
  rfl

/-- Settles O18: the loop is the fold of the byte update. -/
theorem ckpageResult : Obligations.CkpageResult := fun s =>
  ⟨ckAfter s.cfg.ckBitOrder s.inBuf, exec_ckpage s, rfl, ckFrom_setWidth _ s.inBuf 0, ckAfter_bit8 _ s.inBuf⟩

/-- Settles O19: the update is injective in its byte, and the two pages of R166 meet after their second byte. -/
theorem checksumDetectsLastByte : Obligations.ChecksumDetectsLastByte := by
  refine ⟨fun order bs b b' h => ?_, ?_⟩
  · rw [ckPage_concat, ckPage_concat] at h
    exact ckByte_injective order (ckPage order bs) h
  · have hmeet : ckPage .lsbFirst [0x19, 0] = ckPage .lsbFirst [0, 0] := rfl
    exact ckPage_append_congr hmeet (List.replicate 254 0)

end Sys2Proof.Machine
end

section
/-! The words of the image codec (spec/43_os_image_codec.md R180 to R185): bytes as little-endian words, the word code,
the image mask, and the image checksum with what a change to one word does to it. -/

namespace Sys2Proof.Machine

/-! ## Words of bytes -/

theorem byteOf_append_zero {n : Nat} (hi : BitVec n) (lo : Byte) : byteOf 0 (hi ++ lo) = lo :=
  BitVec.extractLsb'_append_eq_right

theorem byteOf_append_succ {n : Nat} (hi : BitVec n) (lo : Byte) (i : Nat) :
    byteOf (i + 1) (hi ++ lo) = byteOf i hi := by
  have hstart : 8 * (i + 1) - 8 = 8 * i := by omega
  rw [byteOf, BitVec.extractLsb'_append_eq_of_le (by omega), hstart]
  rfl

theorem byteOf_self (b : Byte) : byteOf 0 b = b := BitVec.extractLsb'_eq_self

theorem put32_le32 (b0 b1 b2 b3 : Byte) : put32 (le32 b0 b1 b2 b3) = [b0, b1, b2, b3] := by
  simp only [put32, le32, byteOf_append_zero, byteOf_append_succ, byteOf_self]

/-- What is too short for a word holds fewer than four bytes. -/
theorem length_lt_four {bs : Bytes} (h : ∀ b0 b1 b2 b3 rest, bs = b0 :: b1 :: b2 :: b3 :: rest → False) :
    bs.length < 4 :=
  match bs, h with
  | [], _ | [_], _ | [_, _], _ | [_, _, _], _ => by simp
  | _ :: _ :: _ :: _ :: _, h => (h _ _ _ _ _ rfl).elim

@[simp] theorem toWords_length (bs : Bytes) : (toWords bs).length = bs.length / 4 := by
  fun_induction toWords bs with
  | case1 b0 b1 b2 b3 rest ih =>
    simp only [List.length_cons, ih]
    omega
  | case2 bs hfew => exact (Nat.div_eq_of_lt (length_lt_four hfew)).symm

@[simp] theorem ofWords_length (ws : List Word) : (ofWords ws).length = 4 * ws.length := by
  induction ws with
  | nil => rfl
  | cons w rest ih =>
    have hcons : (ofWords (w :: rest)).length = (ofWords rest).length + 4 := rfl
    rw [hcons, ih, List.length_cons, Nat.mul_succ]

/-- Word `k` of a sequence stands at byte `4 * k`. -/
theorem getElem?_toWords {bs : Bytes} {k : Nat} (hk : k < bs.length / 4) :
    (toWords bs)[k]? = some (wordAt bs (4 * k)) := by
  fun_induction toWords bs generalizing k with
  | case1 b0 b1 b2 b3 rest ih =>
    cases k with
    | zero => rfl
    | succ k =>
      simp only [List.length_cons] at hk
      exact ih (by omega)
  | case2 bs hfew =>
    have hlen := length_lt_four hfew
    omega

/-- Word `k` is read back from the bytes of a word sequence, whatever follows them. -/
theorem wordAt_ofWords_append {ws : List Word} {k : Nat} {w : Word} (hw : ws[k]? = some w) (tail : Bytes) :
    wordAt (ofWords ws ++ tail) (4 * k) = w := by
  induction ws generalizing k with
  | nil => cases hw
  | cons v rest ih =>
    cases k with
    | zero =>
      cases hw
      exact le32_put32 _
    | succ k => exact ih hw

theorem ofWords_toWords {bs : Bytes} (h : bs.length % 4 = 0) : ofWords (toWords bs) = bs := by
  fun_induction toWords bs with
  | case1 b0 b1 b2 b3 rest ih =>
    have hrest : rest.length % 4 = 0 := by simp only [List.length_cons] at h; omega
    calc ofWords (le32 b0 b1 b2 b3 :: toWords rest)
        = put32 (le32 b0 b1 b2 b3) ++ ofWords (toWords rest) := rfl
      _ = [b0, b1, b2, b3] ++ rest := by rw [put32_le32, ih hrest]
  | case2 bs hfew =>
    have hlen := length_lt_four hfew
    exact (List.eq_nil_of_length_eq_zero (by omega)).symm

theorem wordAt_drop (bs : Bytes) (n i : Nat) : wordAt (bs.drop n) i = wordAt bs (n + i) := by
  simp only [wordAt, byteAt_drop, Nat.add_assoc]

theorem byteAt_take {bs : Bytes} {n i : Nat} (hi : i < n) : byteAt (bs.take n) i = byteAt bs i := by
  simp only [byteAt, List.getD_eq_getElem?_getD, List.getElem?_take_of_lt hi]

theorem wordAt_take {bs : Bytes} {n i : Nat} (hi : i + 4 ≤ n) : wordAt (bs.take n) i = wordAt bs i := by
  have h0 : i < n := by omega
  have h1 : i + 1 < n := by omega
  have h2 : i + 2 < n := by omega
  have h3 : i + 3 < n := by omega
  rw [wordAt, wordAt, byteAt_take h0, byteAt_take h1, byteAt_take h2, byteAt_take h3]

theorem byteAt_set_of_ne {bs : Bytes} {k i : Nat} (hne : k ≠ i) (b : Byte) : byteAt (bs.set k b) i = byteAt bs i := by
  simp only [byteAt, List.getD_eq_getElem?_getD, List.getElem?_set_ne hne]

theorem byteAt_set_self {bs : Bytes} {k : Nat} (hk : k < bs.length) (b : Byte) : byteAt (bs.set k b) k = b := by
  simp only [byteAt, List.getD_eq_getElem?_getD, List.getElem?_set_self hk, Option.getD_some]

/-- A change to one byte leaves every other word. -/
theorem wordAt_set_of_ne {bs : Bytes} {k i : Nat} (hne : i ≠ k / 4) (b : Byte) :
    wordAt (bs.set k b) (4 * i) = wordAt bs (4 * i) := by
  have h0 : k ≠ 4 * i := by omega
  have h1 : k ≠ 4 * i + 1 := by omega
  have h2 : k ≠ 4 * i + 2 := by omega
  have h3 : k ≠ 4 * i + 3 := by omega
  rw [wordAt, wordAt, byteAt_set_of_ne h0, byteAt_set_of_ne h1, byteAt_set_of_ne h2, byteAt_set_of_ne h3]

/-- Two sequences of one word there have the same four bytes there. -/
theorem byteAt_eq_of_wordAt_eq {xs ys : Bytes} {i k : Nat} (h : wordAt xs (4 * i) = wordAt ys (4 * i))
    (hk : k / 4 = i) : byteAt xs k = byteAt ys k := by
  have hbytes := congrArg put32 h
  simp only [wordAt, put32_le32, List.cons.injEq, and_true] at hbytes
  obtain ⟨h0, h1, h2, h3⟩ := hbytes
  obtain rfl | rfl | rfl | rfl : k = 4 * i ∨ k = 4 * i + 1 ∨ k = 4 * i + 2 ∨ k = 4 * i + 3 := by omega
  exacts [h0, h1, h2, h3]

/-- A change to one byte changes its word. -/
theorem wordAt_set_ne {bs : Bytes} {k : Nat} {b : Byte} (hk : k < bs.length) (hb : b ≠ byteAt bs k) :
    wordAt (bs.set k b) (4 * (k / 4)) ≠ wordAt bs (4 * (k / 4)) := fun h =>
  hb ((byteAt_set_self hk b).symm.trans (byteAt_eq_of_wordAt_eq h rfl))

/-! ## The word code -/

/-- What the word code adds to a word at an offset (R180). -/
def wordKey (t1 : Vector Word 15) (t2 : Vector Word 14) (off : Nat) : Word :=
  t1[off % 15]'(Nat.mod_lt _ (by decide)) ^^^ t2[off % 14]'(Nat.mod_lt _ (by decide))

section WordCode

variable (t1 : Vector Word 15) (t2 : Vector Word 14)

theorem wordcode_eq_xor (w : Word) (off : Nat) : wordcode t1 t2 w off = w ^^^ wordKey t1 t2 off :=
  BitVec.xor_assoc _ _ _

/-- 210 is a multiple of both table lengths (R181). -/
theorem wordKey_add_period (off : Nat) : wordKey t1 t2 (off + 210) = wordKey t1 t2 off := by
  have h15 : (off + 210) % 15 = off % 15 := by omega
  have h14 : (off + 210) % 14 = off % 14 := by omega
  simp only [wordKey, h15, h14]

theorem wordcode_add_period (w : Word) (off : Nat) : wordcode t1 t2 w (off + 210) = wordcode t1 t2 w off := by
  rw [wordcode_eq_xor, wordcode_eq_xor, wordKey_add_period]

/-- The word code undoes itself (R181). -/
@[simp] theorem wordcode_wordcode (w : Word) (off : Nat) : wordcode t1 t2 (wordcode t1 t2 w off) off = w := by
  rw [wordcode_eq_xor, wordcode_eq_xor, BitVec.xor_assoc, BitVec.xor_self, BitVec.xor_zero]

theorem wordcode_injective {v w : Word} {off : Nat} (h : wordcode t1 t2 v off = wordcode t1 t2 w off) : v = w := by
  simpa only [wordcode_wordcode] using congrArg (wordcode t1 t2 · off) h

@[simp] theorem codeWords_length (off : Nat) (ws : List Word) : (codeWords t1 t2 off ws).length = ws.length := by
  induction ws generalizing off with
  | nil => rfl
  | cons w rest ih => simp only [codeWords, List.length_cons, ih]

/-- Word `k` is coded at the offset `k` places after the first (R187, R189). -/
theorem getElem?_codeWords {off k : Nat} {ws : List Word} {w : Word} (hw : ws[k]? = some w) :
    (codeWords t1 t2 off ws)[k]? = some (wordcode t1 t2 w (k + off)) := by
  induction ws generalizing off k with
  | nil => cases hw
  | cons v rest ih =>
    cases k with
    | zero =>
      cases hw
      rw [Nat.zero_add]
      rfl
    | succ k =>
      rw [Nat.succ_add_eq_add_succ]
      exact ih hw

end WordCode

theorem exec_wordcode {s : State} {t1 : Vector Word 15} {t2 : Vector Word 14} (h1 : s.cfg.osT1 = some t1)
    (h2 : s.cfg.osT2 = some t2) (w o : Word) :
    exec (.wordcode w o) s = .next (s.endedOk { s.par with opc := some 0x07, word := some w, woff := some o }
      (s.startDp .done) (onlyBytes (put32 (wordcode t1 t2 w o.toNat)))) :=
  congrArg Host.Outcome.next (withTables_of_some (s := s.latch (latched (.wordcode w o))) h1 h2 _)

/-- Settles O20: the descriptor is read back, and the laws are those of adding one key word. -/
theorem wordcodeResult : Obligations.WordcodeResult :=
  ⟨fun w o => decodeDescriptor_encode (i := .wordcode w o) rfl rfl, fun _ t1 t2 w o h1 h2 =>
    ⟨exec_wordcode h1 h2 w o, fun n =>
      ⟨rfl, wordcode_add_period t1 t2 w n, wordcode_wordcode t1 t2 w n⟩⟩⟩

/-! ## The image mask -/

/-- `ISTEP` moves every bit one place down, and bit 0 to the top (R182). -/
theorem getLsbD_istep (m : BitVec 33) {i : Nat} (hi : i < 33) : (istep m).getLsbD i = m.getLsbD ((i + 1) % 33) := by
  have hlow : ∀ i < 32, (0x100000000 : BitVec 33).getLsbD i = false := by decide
  have hout : m.getLsbD 33 = false := BitVec.getLsbD_of_ge m 33 le_rfl
  unfold istep
  obtain hi | rfl : i < 32 ∨ i = 32 := by omega
  · rw [Nat.mod_eq_of_lt (by omega), Nat.add_comm]
    split
    · rw [BitVec.getLsbD_or, BitVec.getLsbD_ushiftRight, hlow i hi, Bool.or_false]
    · rw [BitVec.getLsbD_ushiftRight]
  · split
    next hset => rw [BitVec.getLsbD_or, BitVec.getLsbD_ushiftRight, hout, Nat.mod_self, hset]; rfl
    next hclear => rw [BitVec.getLsbD_ushiftRight, hout, Nat.mod_self, Bool.eq_false_iff.mpr hclear]

theorem istep_eq_rotateRight (m : BitVec 33) : istep m = m.rotateRight 1 := by
  refine BitVec.eq_of_getLsbD_eq fun i hi => ?_
  rw [getLsbD_istep m hi, BitVec.getLsbD_rotateRight]
  obtain hi | rfl : i < 32 ∨ i = 32 := by omega
  · rw [Nat.mod_eq_of_lt (by omega), decide_eq_true (by omega), Nat.add_comm]
    rfl
  · rfl

/-- `n` steps move every bit `n` places down, round the 33 places (R182). -/
theorem getLsbD_iterate_istep (m : BitVec 33) (n : Nat) {i : Nat} (hi : i < 33) :
    (istep^[n] m).getLsbD i = m.getLsbD ((i + n) % 33) := by
  induction n generalizing i with
  | zero => rw [Nat.add_zero, Nat.mod_eq_of_lt hi]; rfl
  | succ n ih =>
    rw [Function.iterate_succ_apply', getLsbD_istep _ hi, ih (Nat.mod_lt _ (by decide))]
    congr 1
    omega

/-- Settles O21, bit by bit. -/
theorem imageMaskRotates : Obligations.ImageMaskRotates := by
  refine ⟨fun m => ⟨istep_eq_rotateRight m, BitVec.eq_of_getLsbD_eq fun i hi => ?_⟩, by decide⟩
  rw [getLsbD_iterate_istep m 33 hi, Nat.add_mod_right, Nat.mod_eq_of_lt hi]

/-! ## The image checksum -/

theorem imageSumFrom_cons (a : ImageSum) (w : Word) (ws : List Word) :
    imageSumFrom a (w :: ws) = imageSumFrom (a.add w) ws := by
  simp only [imageSumFrom, strictly_eq]

/-- Each word steps the mask once (R184). -/
theorem imageSumFrom_dmagic (a : ImageSum) (ws : List Word) :
    (imageSumFrom a ws).dmagic = istep^[ws.length] a.dmagic := by
  induction ws generalizing a with
  | nil => rfl
  | cons w rest ih => rw [imageSumFrom_cons, ih, List.length_cons, Function.iterate_succ_apply]; rfl

theorem imageSum_dmagic (ws : List Word) : (imageSum ws).dmagic = istep^[ws.length] 0x42474552 :=
  imageSumFrom_dmagic ImageSum.start ws

/-- The sum over a word sequence of the mask, stepped before each word, XOR the word, not reduced (R184). -/
def maskedSum (m : BitVec 33) (ws : List Word) : Nat :=
  ((List.range ws.length).map fun k => ((istep^[k + 1] m) ^^^ (ws.getD k 0).setWidth 33).toNat).sum

theorem maskedSum_cons (m : BitVec 33) (w : Word) (ws : List Word) :
    maskedSum m (w :: ws) = (istep m ^^^ w.setWidth 33).toNat + maskedSum (istep m) ws := by
  rw [maskedSum, List.length_cons, List.range_succ_eq_map, List.map_cons, List.sum_cons, List.map_map]
  rfl

/-- `ISUM` is the sum, reduced (R184). -/
theorem imageSumFrom_isum (a : ImageSum) (ws : List Word) :
    (imageSumFrom a ws).isum.toNat = (a.isum.toNat + maskedSum a.dmagic ws) % 2 ^ 32 := by
  induction ws generalizing a with
  | nil => exact (Nat.mod_eq_of_lt a.isum.isLt).symm
  | cons w rest ih =>
    rw [imageSumFrom_cons, ih, maskedSum_cons]
    simp only [ImageSum.add, BitVec.toNat_add, BitVec.toNat_setWidth]
    omega

theorem imageChecksum_toNat (ws : List Word) : (imageChecksum ws).toNat = maskedSum 0x42474552 ws % 2 ^ 32 :=
  (imageSumFrom_isum ImageSum.start ws).trans (congrArg (· % 2 ^ 32) (Nat.zero_add _))

/-- From one mask, the words add the same to every sum. -/
theorem imageSumFrom_isum_injective {m : BitVec 33} {t t' : Word} {ws : List Word}
    (h : (imageSumFrom ⟨m, t⟩ ws).isum = (imageSumFrom ⟨m, t'⟩ ws).isum) : t = t' := by
  induction ws generalizing m t t' with
  | nil => exact h
  | cons w rest ih =>
    rw [imageSumFrom_cons, imageSumFrom_cons] at h
    exact (BitVec.add_left_inj _).mp (ih h)

/-- No two words add the same to one sum. -/
theorem imageSum_add_injective {a : ImageSum} {v w : Word} (h : (a.add v).isum = (a.add w).isum) : v = w := by
  have hmasked := (BitVec.add_right_inj _).mp h
  rw [BitVec.setWidth_xor, BitVec.setWidth_xor, BitVec.xor_right_inj] at hmasked
  simpa using hmasked

/-- Of two sequences that differ in at most one word, only equal ones have the same sum. -/
theorem imageSumFrom_injective_at (a : ImageSum) {vs ws : List Word} {i : Nat} (hlen : vs.length = ws.length)
    (hsame : ∀ j, j ≠ i → vs[j]? = ws[j]?) (h : (imageSumFrom a vs).isum = (imageSumFrom a ws).isum) :
    vs[i]? = ws[i]? := by
  induction vs generalizing a ws i with
  | nil => rw [List.eq_nil_of_length_eq_zero hlen.symm]
  | cons v vs ih =>
    cases ws with
    | nil => cases hlen
    | cons w ws =>
      rw [imageSumFrom_cons, imageSumFrom_cons] at h
      cases i with
      | zero =>
        obtain rfl : vs = ws := List.ext_getElem? fun j => hsame (j + 1) j.succ_ne_zero
        exact congrArg some (imageSum_add_injective (imageSumFrom_isum_injective h))
      | succ i =>
        obtain rfl : v = w := Option.some.inj (hsame 0 i.succ_ne_zero.symm)
        exact ih (a.add v) (Nat.succ.inj hlen) (fun j hj => hsame (j + 1) (mt Nat.succ.inj hj)) h

/-! ## The operation `ICKSUM` -/

theorem icksumRun_of_words {input : Bytes} (h : input.length % 4 = 0) (s : State) :
    icksumRun input s =
      .ok (put32 (imageChecksum (toWords input))) (s.putImageSum (imageSum (toWords input))) :=
  if_neg (not_not_intro h)

theorem icksumRun_of_partWord {input : Bytes} (h : input.length % 4 ≠ 0) (s : State) :
    icksumRun input s = .raised ⟨.formatError, .check .wordLength⟩ s := if_pos h

theorem exec_icksum (s : State) :
    exec .icksum s = .next (finish ((icksumRun s.inBuf (s.latch (latched .icksum)).begin).andThen onlyOut)) := rfl

theorem exec_icksum_of_words {s : State} (h : s.inBuf.length % 4 = 0) :
    exec .icksum s = .next (s.endedOk { s.par with opc := some 0x08 }
      { s.startDp .done with
        dmagic := istep^[s.inBuf.length / 4] 0x42474552, isum := imageChecksum (toWords s.inBuf) }
      (onlyBytes (put32 (imageChecksum (toWords s.inBuf))))) := by
  rw [exec_icksum, icksumRun_of_words h, ← toWords_length, ← imageSum_dmagic]
  rfl

theorem exec_icksum_of_partWord {s : State} (h : s.inBuf.length % 4 ≠ 0) :
    exec .icksum s = .next (s.endedErr { s.par with opc := some 0x08 } (s.startDp .failed)
      ⟨.formatError, .check .wordLength⟩) := by
  rw [exec_icksum, icksumRun_of_partWord h, finish_onlyOut_raised]
  rfl

theorem maskedSum_toWords (m : BitVec 33) (bs : Bytes) :
    maskedSum m (toWords bs) = ((List.range (bs.length / 4)).map fun k =>
      ((istep^[k + 1] m) ^^^ (wordAt bs (4 * k)).setWidth 33).toNat).sum := by
  rw [maskedSum, toWords_length]
  refine congrArg List.sum (List.map_congr_left fun k hk => ?_)
  rw [List.getD_eq_getElem?_getD, getElem?_toWords (List.mem_range.mp hk), Option.getD_some]

/-- Settles O22: the length check decides how `ICKSUM` ends, and its loop is the sum. -/
theorem icksumResult : Obligations.IcksumResult := by
  refine ⟨fun _ => rfl, fun _ _ => rfl, imageChecksum_toNat, fun s => ⟨fun hwords => ?_, fun hpart =>
    ⟨_, exec_icksum_of_partWord hpart⟩⟩⟩
  refine ⟨imageChecksum (toWords s.inBuf), exec_icksum_of_words hwords, ?_⟩
  rw [imageChecksum_toNat, maskedSum_toWords]

end Sys2Proof.Machine
end

section
/-! The dump of an image (spec/43_os_image_codec.md R186 to R193): what `OS2DUMP` writes, the checks of `DUMP2OS` in
their order, why it inverts `OS2DUMP`, and why no change to a checksummed byte passes its checks. -/

namespace Sys2Proof.Machine

theorem sizeInRange_eq_true_iff (size : Nat) : sizeInRange size = true ↔ sizeFits size := by
  rw [sizeInRange, Bool.and_eq_true, decide_eq_true_iff, decide_eq_true_iff]
  rfl

theorem sizeInRange_eq_false_iff (size : Nat) : sizeInRange size = false ↔ ¬sizeFits size := by
  rw [← sizeInRange_eq_true_iff, Bool.not_eq_true]

/-- A size that passes the check fits its header word. -/
theorem toNat_ofNat_of_sizeFits {size : Nat} (h : sizeFits size) : (BitVec.ofNat 32 size).toNat = size := by
  obtain ⟨-, hlimit⟩ := h
  have hge := align4_ge size
  exact Nat.mod_eq_of_lt (by omega)

/-- The image codec leaves its registers and returns `OUT`. -/
theorem finish_coded_ok (s : State) (f : ParamRegs → ParamRegs) (wofs : Nat) (a : ImageSum) (out : Bytes) :
    finish ((Run.ok out (((s.latch f).begin.putWofs wofs).putImageSum a)).andThen onlyOut) =
      s.endedOk (f s.par)
        { s.startDp .done with dmagic := a.dmagic, isum := a.isum, wofs := BitVec.ofNat 32 wofs } (onlyBytes out) := rfl

/-- The image codec leaves its registers and ends with an error. -/
theorem finish_coded_raised (s : State) (f : ParamRegs → ParamRegs) (wofs : Nat) (a : ImageSum) (e : Err) :
    finish ((Run.raised e (((s.latch f).begin.putWofs wofs).putImageSum a)).andThen onlyOut) =
      s.endedErr (f s.par)
        { s.startDp .failed with dmagic := a.dmagic, isum := a.isum, wofs := BitVec.ofNat 32 wofs } e := rfl

theorem returned_endedOk (s : State) (par : ParamRegs) (dp : Datapath) (o : Output) : (s.endedOk par dp o).returned o :=
  ⟨dp.events, rfl⟩

/-! ## `DUMP2OS` -/

section Dump2os

variable (t1 : Vector Word 15) (t2 : Vector Word 14)

/-- The image size that a dump's first word holds (R187). -/
def dumpSize (dump : Bytes) : Nat := (wordcode t1 t2 (wordAt dump 0) 0).toNat

/-- The checksum that a dump's second word holds (R187). -/
def dumpChecksum (dump : Bytes) : Word := wordcode t1 t2 (wordAt dump 4) 1

/-- The image words of a dump, decoded (R187). -/
def dumpWords (dump : Bytes) : List Word :=
  codeWords t1 t2 2 (toWords ((dump.drop 8).take (align4 (dumpSize t1 t2 dump))))

/-- A dump that passes the checks of `DUMP2OS` before its checksum: the size is in the bound and all words are there
(R186, R187). -/
structure DumpWhole (dump : Bytes) : Prop where
  fits : sizeFits (dumpSize t1 t2 dump)
  whole : 8 + align4 (dumpSize t1 t2 dump) ≤ dump.length

/-- A dump that passes all checks of `DUMP2OS` (R187). -/
structure DumpAccepted (dump : Bytes) : Prop extends DumpWhole t1 t2 dump where
  checked : imageChecksum (dumpWords t1 t2 dump) = dumpChecksum t1 t2 dump

/-- The state of `DUMP2OS` once it has read the words of a whole dump. -/
def State.readDump (dump : Bytes) (s : State) : State :=
  (s.putWofs (align4 (dumpSize t1 t2 dump) / 4 + 1)).putImageSum (imageSum (dumpWords t1 t2 dump))

variable {t1 t2} {dump : Bytes}

theorem dump2osRun_of_shortHeader (h : dump.length < 8) (s : State) :
    dump2osRun t1 t2 dump s = .raised ⟨.formatError, .check .shortHeader⟩ s := if_pos h

theorem dump2osRun_of_not_sizeFits (hheader : 8 ≤ dump.length) (hfits : ¬sizeFits (dumpSize t1 t2 dump)) (s : State) :
    dump2osRun t1 t2 dump s = .raised ⟨.sizeOutOfRange, .size (dumpSize t1 t2 dump)⟩ s :=
  (if_neg (Nat.not_lt.mpr hheader)).trans (if_pos ((sizeInRange_eq_false_iff _).mpr hfits))

theorem dump2osRun_of_shortData (hheader : 8 ≤ dump.length) (hfits : sizeFits (dumpSize t1 t2 dump))
    (hshort : dump.length < 8 + align4 (dumpSize t1 t2 dump)) (s : State) :
    dump2osRun t1 t2 dump s = .raised ⟨.formatError, .check .shortData⟩ s :=
  (if_neg (Nat.not_lt.mpr hheader)).trans <|
    (if_neg ((sizeInRange_eq_false_iff _).not.mpr (not_not_intro hfits))).trans (if_pos hshort)

/-- The words of a whole dump are read, whatever its checksum says (R187). -/
theorem dump2osRun_of_whole (h : DumpWhole t1 t2 dump) (s : State) :
    dump2osRun t1 t2 dump s =
      if imageChecksum (dumpWords t1 t2 dump) ≠ dumpChecksum t1 t2 dump then
        .raised ⟨.checksumMismatch, .checksum (dumpChecksum t1 t2 dump)⟩ (s.readDump t1 t2 dump)
      else .ok ((ofWords (dumpWords t1 t2 dump)).take (dumpSize t1 t2 dump)) (s.readDump t1 t2 dump) :=
  have hheader : ¬dump.length < 8 := Nat.not_lt.mpr ((Nat.le_add_right 8 _).trans h.whole)
  (if_neg hheader).trans <|
    (if_neg ((sizeInRange_eq_false_iff _).not.mpr (not_not_intro h.fits))).trans (if_neg (Nat.not_lt.mpr h.whole))

theorem dump2osRun_of_mismatch (h : DumpWhole t1 t2 dump)
    (hck : imageChecksum (dumpWords t1 t2 dump) ≠ dumpChecksum t1 t2 dump) (s : State) :
    dump2osRun t1 t2 dump s =
      .raised ⟨.checksumMismatch, .checksum (dumpChecksum t1 t2 dump)⟩ (s.readDump t1 t2 dump) :=
  (dump2osRun_of_whole h s).trans (if_pos hck)

theorem dump2osRun_of_accepted (h : DumpAccepted t1 t2 dump) (s : State) :
    dump2osRun t1 t2 dump s =
      .ok ((ofWords (dumpWords t1 t2 dump)).take (dumpSize t1 t2 dump)) (s.readDump t1 t2 dump) :=
  (dump2osRun_of_whole h.toDumpWhole s).trans (if_neg (not_not_intro h.checked))

/-- `DUMP2OS` answers an image only where all its checks pass. -/
theorem dumpAccepted_of_ok {s u : State} {image : Bytes} (h : dump2osRun t1 t2 dump s = .ok image u) :
    DumpAccepted t1 t2 dump := by
  by_cases hheader : dump.length < 8
  · cases (dump2osRun_of_shortHeader hheader s).symm.trans h
  by_cases hfits : sizeFits (dumpSize t1 t2 dump)
  case neg => cases (dump2osRun_of_not_sizeFits (Nat.not_lt.mp hheader) hfits s).symm.trans h
  by_cases hshort : dump.length < 8 + align4 (dumpSize t1 t2 dump)
  · cases (dump2osRun_of_shortData (Nat.not_lt.mp hheader) hfits hshort s).symm.trans h
  have hwhole : DumpWhole t1 t2 dump := ⟨hfits, Nat.not_lt.mp hshort⟩
  by_cases hck : imageChecksum (dumpWords t1 t2 dump) = dumpChecksum t1 t2 dump
  · exact ⟨hwhole, hck⟩
  · cases (dump2osRun_of_mismatch hwhole hck s).symm.trans h

theorem dumpWords_length (h : DumpWhole t1 t2 dump) :
    (dumpWords t1 t2 dump).length = align4 (dumpSize t1 t2 dump) / 4 := by
  have hwhole := h.whole
  rw [dumpWords, codeWords_length, toWords_length, List.length_take_of_le]
  rw [List.length_drop]
  omega

/-- Image word `k` of a dump stands two words after its start (R187). -/
theorem getElem?_dumpWords (h : DumpWhole t1 t2 dump) {k : Nat} (hk : k < align4 (dumpSize t1 t2 dump) / 4) :
    (dumpWords t1 t2 dump)[k]? = some (wordcode t1 t2 (wordAt dump (8 + 4 * k)) (k + 2)) := by
  have hwhole := h.whole
  have hend : 4 * k + 4 ≤ align4 (dumpSize t1 t2 dump) := by omega
  have hcount : k < ((dump.drop 8).take (align4 (dumpSize t1 t2 dump))).length / 4 := by
    rw [List.length_take_of_le (by rw [List.length_drop]; omega)]
    exact hk
  rw [← wordAt_drop, ← wordAt_take hend]
  exact getElem?_codeWords t1 t2 (getElem?_toWords hcount)

/-- The words of a whole dump are determined one by one. -/
theorem eq_dumpWords (h : DumpWhole t1 t2 dump) {ws : List Word}
    (hlen : ws.length = align4 (dumpSize t1 t2 dump) / 4)
    (hws : ∀ k, k < align4 (dumpSize t1 t2 dump) / 4 →
      ws[k]? = some (wordcode t1 t2 (wordAt dump (8 + 4 * k)) (k + 2))) :
    ws = dumpWords t1 t2 dump := by
  refine List.ext_getElem? fun k => ?_
  by_cases hk : k < align4 (dumpSize t1 t2 dump) / 4
  · rw [hws k hk, getElem?_dumpWords h hk]
  · rw [List.getElem?_eq_none (by omega), List.getElem?_eq_none (by rw [dumpWords_length h]; omega)]

/-- Settles O24: its checks in order, and where the words are read they are those of the dump. -/
theorem dump2osResult : Obligations.Dump2osResult := by
  refine fun s t1 t2 h1 h2 => ⟨fun hheader => ⟨.check .shortHeader, ?_⟩,
    fun hheader hfits => ⟨.size (dumpSize t1 t2 s.inBuf), ?_⟩,
    fun hheader hfits hshort => ⟨.check .shortData, ?_⟩, fun ws hfits hwhole hlen hws => ?_⟩
  · rw [exec_dump2os h1 h2, dump2osRun_of_shortHeader hheader]
    rfl
  · rw [exec_dump2os h1 h2, dump2osRun_of_not_sizeFits hheader hfits]
    rfl
  · rw [exec_dump2os h1 h2, dump2osRun_of_shortData hheader hfits hshort]
    rfl
  · have hdump : DumpWhole t1 t2 s.inBuf := ⟨hfits, hwhole⟩
    obtain rfl := eq_dumpWords hdump hlen hws
    have hmagic := imageSum_dmagic (dumpWords t1 t2 s.inBuf)
    rw [hlen] at hmagic
    refine ⟨fun hck => ⟨.checksum (dumpChecksum t1 t2 s.inBuf), ?_⟩, fun hck => ?_⟩
    · rw [exec_dump2os h1 h2, dump2osRun_of_mismatch hdump hck, State.readDump, finish_coded_raised, hmagic]
      rfl
    · rw [exec_dump2os h1 h2, dump2osRun_of_accepted ⟨hdump, hck⟩, State.readDump, finish_coded_ok, hmagic]
      rfl

/-! ## A changed dump -/

variable {k : Nat} {b : Byte}

theorem dumpSize_set (hk : 4 ≤ k) (b : Byte) : dumpSize t1 t2 (dump.set k b) = dumpSize t1 t2 dump := by
  have hword : 0 ≠ k / 4 := by omega
  exact congrArg (fun w => (wordcode t1 t2 w 0).toNat) (wordAt_set_of_ne hword b)

theorem DumpWhole.set (h : DumpWhole t1 t2 dump) (hk : 4 ≤ k) (b : Byte) : DumpWhole t1 t2 (dump.set k b) where
  fits := by rw [dumpSize_set hk]; exact h.fits
  whole := by rw [dumpSize_set hk, List.length_set]; exact h.whole

/-- A change to the checksum word changes the checksum that the dump holds. -/
theorem dumpChecksum_set_ne (hword : k / 4 = 1) (hk : k < dump.length) (hb : b ≠ byteAt dump k) :
    dumpChecksum t1 t2 (dump.set k b) ≠ dumpChecksum t1 t2 dump := fun hck => by
  have hchanged := wordAt_set_ne hk hb
  rw [hword] at hchanged
  exact hchanged (wordcode_injective t1 t2 hck)

theorem dumpChecksum_set_of_ne (hword : k / 4 ≠ 1) (b : Byte) :
    dumpChecksum t1 t2 (dump.set k b) = dumpChecksum t1 t2 dump :=
  congrArg (wordcode t1 t2 · 1) (wordAt_set_of_ne hword.symm b)

/-- A change to one byte leaves every image word but its own. -/
theorem getElem?_dumpWords_set_of_ne (h : DumpWhole t1 t2 dump) (hk : 4 ≤ k) {j : Nat} (hj : j + 2 ≠ k / 4) (b : Byte) :
    (dumpWords t1 t2 (dump.set k b))[j]? = (dumpWords t1 t2 dump)[j]? := by
  have hset := h.set hk b
  by_cases hlt : j < align4 (dumpSize t1 t2 dump) / 4
  · have hword : wordAt (dump.set k b) (8 + 4 * j) = wordAt dump (8 + 4 * j) := by
      rw [show 8 + 4 * j = 4 * (j + 2) by omega, wordAt_set_of_ne hj]
    rw [getElem?_dumpWords h hlt, getElem?_dumpWords hset (by rwa [dumpSize_set hk]), hword]
  · rw [List.getElem?_eq_none (by rw [dumpWords_length hset, dumpSize_set hk]; omega),
      List.getElem?_eq_none (by rw [dumpWords_length h]; omega)]

/-- A change to a byte of an image word changes that word. -/
theorem getElem?_dumpWords_set_ne (h : DumpWhole t1 t2 dump) {j : Nat} (hj : j < align4 (dumpSize t1 t2 dump) / 4)
    (hword : k / 4 = j + 2) (hb : b ≠ byteAt dump k) :
    (dumpWords t1 t2 (dump.set k b))[j]? ≠ (dumpWords t1 t2 dump)[j]? := fun hsame => by
  have hwhole := h.whole
  have hk : 4 ≤ k := by omega
  have hchanged := wordAt_set_ne (by omega : k < dump.length) hb
  rw [getElem?_dumpWords h hj, getElem?_dumpWords (h.set hk b) (by rwa [dumpSize_set hk])] at hsame
  rw [show 4 * (k / 4) = 8 + 4 * j by omega] at hchanged
  exact hchanged (wordcode_injective t1 t2 (Option.some.inj hsame))

/-- No change to one byte of the checksum word or of the image words of an accepted dump keeps the two checksums
together (R193). -/
theorem imageChecksum_set_ne (h : DumpAccepted t1 t2 dump) (hk : 4 ≤ k) (hend : k < 8 + align4 (dumpSize t1 t2 dump))
    (hb : b ≠ byteAt dump k) :
    imageChecksum (dumpWords t1 t2 (dump.set k b)) ≠ dumpChecksum t1 t2 (dump.set k b) := fun hck => by
  have hdump := h.toDumpWhole
  have hwhole := h.whole
  obtain hword | ⟨j, hword⟩ : k / 4 = 1 ∨ ∃ j, k / 4 = j + 2 := by
    by_cases h1 : k / 4 = 1
    · exact .inl h1
    · exact .inr ⟨k / 4 - 2, by omega⟩
  · have hwords : dumpWords t1 t2 (dump.set k b) = dumpWords t1 t2 dump :=
      List.ext_getElem? fun j => getElem?_dumpWords_set_of_ne hdump hk (by omega) b
    rw [hwords, h.checked] at hck
    exact dumpChecksum_set_ne hword (by omega) hb hck.symm
  · have haligned := (align4_ge (dumpSize t1 t2 dump)).2.2
    have hlen : (dumpWords t1 t2 (dump.set k b)).length = (dumpWords t1 t2 dump).length := by
      rw [dumpWords_length hdump, dumpWords_length (hdump.set hk b), dumpSize_set hk]
    rw [dumpChecksum_set_of_ne (by omega), ← h.checked] at hck
    exact getElem?_dumpWords_set_ne hdump (by omega) hword hb <|
      imageSumFrom_injective_at ImageSum.start hlen
        (fun i hi => getElem?_dumpWords_set_of_ne hdump hk (by omega) b) hck

/-- An operation returned an output only if its run answered. -/
theorem run_ok_of_returned {r : Run Output} {o : Output} (h : (finish r).returned o) : ∃ u, r = .ok o u := by
  cases r with
  | ok o' u => exact ⟨u, by rw [(returned_returnOk_iff _ _ _).mp h]⟩
  | raised e u => exact (not_returned_returnError _ _ _ h).elim

/-- Settles O25: the changed dump keeps its size, so it reaches the checksum and fails it. -/
theorem dumpChangeIsDetected : Obligations.DumpChangeIsDetected := by
  intro s t t1 t2 image k b h1 h2 ht hreturned hk hend hb
  cases (exec_dump2os h1 h2).symm.trans ht
  obtain ⟨u, hu⟩ := run_ok_of_returned hreturned
  obtain ⟨_, _, hrun, -⟩ := Run.andThen_eq_ok hu
  have hdump := dumpAccepted_of_ok hrun
  refine ⟨_, exec_dump2os (s := { s with inBuf := s.inBuf.set k b }) h1 h2, ?_⟩
  rw [dump2osRun_of_mismatch (hdump.toDumpWhole.set hk b) (imageChecksum_set_ne hdump hk hend hb)]
  rfl

end Dump2os

/-! ## `OS2DUMP` -/

/-- An image with its last word filled (R189). -/
def padImage (image : Bytes) : Bytes := image ++ List.replicate (align4 image.length - image.length) 0xFF

@[simp] theorem padImage_length (image : Bytes) : (padImage image).length = align4 image.length := by
  have hge := align4_ge image.length
  rw [padImage, List.length_append, List.length_replicate]
  omega

theorem take_padImage (image : Bytes) : (padImage image).take image.length = image := List.take_left

/-- The words of an image (R189). -/
def imageWords (image : Bytes) : List Word := toWords (padImage image)

theorem imageWords_length (image : Bytes) : (imageWords image).length = align4 image.length / 4 := by
  rw [imageWords, toWords_length, padImage_length]

theorem getElem?_imageWords (image : Bytes) {k : Nat} (hk : k < align4 image.length / 4) :
    (imageWords image)[k]? = some (wordAt (padImage image) (4 * k)) :=
  getElem?_toWords (by rwa [padImage_length])

theorem ofWords_imageWords (image : Bytes) : ofWords (imageWords image) = padImage image :=
  ofWords_toWords (by rw [padImage_length]; exact (align4_ge image.length).2.2)

/-- The words of a dump before they are coded: the size, the checksum and the image (R189). -/
def plainDumpWords (image : Bytes) : List Word :=
  BitVec.ofNat 32 image.length :: imageChecksum (imageWords image) :: imageWords image

section Os2dump

variable (t1 : Vector Word 15) (t2 : Vector Word 14)

/-- The bytes of a dump before its fill (R189). -/
def dumpBody (image : Bytes) : Bytes := ofWords (codeWords t1 t2 0 (plainDumpWords image))

/-- The fill of a dump up to whole sectors (R189). -/
def dumpFill (image : Bytes) : Bytes :=
  List.replicate (alignUp (dumpBody t1 t2 image).length 4096 - (dumpBody t1 t2 image).length) 0xFF

/-- The dump of an image (R189). -/
def dumpOf (image : Bytes) : Bytes := dumpBody t1 t2 image ++ dumpFill t1 t2 image

theorem dumpBody_length (image : Bytes) : (dumpBody t1 t2 image).length = 8 + align4 image.length := by
  have haligned := (align4_ge image.length).2.2
  rw [dumpBody, ofWords_length, codeWords_length, plainDumpWords, List.length_cons, List.length_cons, imageWords_length]
  omega

theorem dumpOf_length (image : Bytes) : (dumpOf t1 t2 image).length = alignUp (8 + align4 image.length) 4096 := by
  have hge := alignUp_ge (8 + align4 image.length) (m := 4096) (by decide)
  rw [dumpOf, List.length_append, dumpFill, List.length_replicate, dumpBody_length]
  omega

/-- Word `k` of a dump is coded at offset `k` (R189). -/
theorem wordAt_dumpOf {image : Bytes} {k : Nat} {w : Word} (hw : (plainDumpWords image)[k]? = some w) :
    wordAt (dumpOf t1 t2 image) (4 * k) = wordcode t1 t2 w k :=
  wordAt_ofWords_append (getElem?_codeWords t1 t2 hw) _

theorem wordAt_dumpOf_image {image : Bytes} {k : Nat} (hk : k < align4 image.length / 4) :
    wordAt (dumpOf t1 t2 image) (8 + 4 * k) = wordcode t1 t2 (wordAt (padImage image) (4 * k)) (k + 2) := by
  rw [show 8 + 4 * k = 4 * (k + 2) by omega]
  exact wordAt_dumpOf t1 t2 (k := k + 2) (getElem?_imageWords image hk)

theorem byteAt_dumpOf_fill {image : Bytes} {k : Nat} (hbody : 8 + align4 image.length ≤ k)
    (hk : k < (dumpOf t1 t2 image).length) : byteAt (dumpOf t1 t2 image) k = 0xFF := by
  rw [← dumpBody_length t1 t2] at hbody
  rw [dumpOf, List.length_append] at hk
  rw [byteAt, List.getD_eq_getElem?_getD, dumpOf, List.getElem?_append_right hbody, dumpFill,
    List.getElem?_replicate_of_lt (by rw [dumpFill, List.length_replicate] at hk; omega), Option.getD_some]

variable {t1 t2}

theorem os2dumpRun_of_fits {image : Bytes} (h : imageFits image) (s : State) :
    os2dumpRun t1 t2 image s = .ok (dumpOf t1 t2 image)
      ((s.putImageSum (imageSum (imageWords image))).putWofs (align4 image.length / 4 + 1)) :=
  if_neg ((sizeInRange_eq_false_iff _).not.mpr (not_not_intro h))

theorem os2dumpRun_of_not_fits {image : Bytes} (h : ¬imageFits image) (s : State) :
    os2dumpRun t1 t2 image s = .raised ⟨.sizeOutOfRange, .size image.length⟩ s :=
  if_pos ((sizeInRange_eq_false_iff _).mpr h)

theorem exec_os2dump_of_fits {s : State} (h1 : s.cfg.osT1 = some t1) (h2 : s.cfg.osT2 = some t2)
    (h : imageFits s.inBuf) :
    exec .os2dump s = .next (s.endedOk { s.par with opc := some 0x0A }
      { s.startDp .done with
        dmagic := istep^[align4 s.inBuf.length / 4] 0x42474552, isum := imageChecksum (imageWords s.inBuf),
        wofs := BitVec.ofNat 32 (align4 s.inBuf.length / 4 + 1) }
      (onlyBytes (dumpOf t1 t2 s.inBuf))) := by
  have hmagic := imageSum_dmagic (imageWords s.inBuf)
  rw [imageWords_length] at hmagic
  rw [exec_os2dump h1 h2, os2dumpRun_of_fits h, ← hmagic]
  rfl

/-- Settles O23: the size check decides how `OS2DUMP` ends, and the dump is read word by word. -/
theorem os2dumpResult : Obligations.Os2dumpResult := by
  refine ⟨fun n => ?_, fun n m hm => ?_, fun s t1 t2 h1 h2 => ⟨fun hfits => ?_, fun hfits =>
    ⟨.size s.inBuf.length, ?_⟩⟩⟩
  · obtain ⟨hle, hlt, hmod⟩ := align4_ge n
    exact ⟨hmod, hle, hlt⟩
  · obtain ⟨hle, hlt, hmod⟩ := alignUp_ge n hm
    exact ⟨hmod, hle, hlt⟩
  · exact ⟨dumpOf t1 t2 s.inBuf, imageChecksum (imageWords s.inBuf), imageWords s.inBuf,
      exec_os2dump_of_fits h1 h2 hfits, imageWords_length s.inBuf, fun _ => getElem?_imageWords s.inBuf, rfl,
      dumpOf_length t1 t2 s.inBuf, wordAt_dumpOf t1 t2 (k := 0) rfl, wordAt_dumpOf t1 t2 (k := 1) rfl,
      fun _ => wordAt_dumpOf_image t1 t2, fun _ => byteAt_dumpOf_fill t1 t2⟩
  · rw [exec_os2dump h1 h2, os2dumpRun_of_not_fits hfits]
    rfl

/-! ## There and back -/

theorem dumpSize_dumpOf {image : Bytes} (h : imageFits image) : dumpSize t1 t2 (dumpOf t1 t2 image) = image.length := by
  have hword : wordAt (dumpOf t1 t2 image) 0 = wordcode t1 t2 (BitVec.ofNat 32 image.length) 0 :=
    wordAt_dumpOf t1 t2 (k := 0) rfl
  rw [dumpSize, hword, wordcode_wordcode, toNat_ofNat_of_sizeFits h]

theorem dumpChecksum_dumpOf (image : Bytes) :
    dumpChecksum t1 t2 (dumpOf t1 t2 image) = imageChecksum (imageWords image) := by
  have hword : wordAt (dumpOf t1 t2 image) 4 = wordcode t1 t2 (imageChecksum (imageWords image)) 1 :=
    wordAt_dumpOf t1 t2 (k := 1) rfl
  rw [dumpChecksum, hword, wordcode_wordcode]

theorem dumpWhole_dumpOf {image : Bytes} (h : imageFits image) : DumpWhole t1 t2 (dumpOf t1 t2 image) where
  fits := by rw [dumpSize_dumpOf h]; exact h
  whole := by
    rw [dumpSize_dumpOf h, dumpOf_length]
    exact (alignUp_ge (8 + align4 image.length) (m := 4096) (by decide)).1

theorem dumpWords_dumpOf {image : Bytes} (h : imageFits image) :
    dumpWords t1 t2 (dumpOf t1 t2 image) = imageWords image := by
  refine (eq_dumpWords (dumpWhole_dumpOf h) ?_ fun k hk => ?_).symm
  · rw [dumpSize_dumpOf h, imageWords_length]
  · rw [dumpSize_dumpOf h] at hk
    rw [wordAt_dumpOf_image t1 t2 hk, wordcode_wordcode, getElem?_imageWords image hk]

theorem dumpAccepted_dumpOf {image : Bytes} (h : imageFits image) : DumpAccepted t1 t2 (dumpOf t1 t2 image) where
  toDumpWhole := dumpWhole_dumpOf h
  checked := by rw [dumpWords_dumpOf h, dumpChecksum_dumpOf]

theorem dump2osRun_dumpOf {image : Bytes} (h : imageFits image) (s : State) :
    dump2osRun t1 t2 (dumpOf t1 t2 image) s = .ok image (s.readDump t1 t2 (dumpOf t1 t2 image)) := by
  rw [dump2osRun_of_accepted (dumpAccepted_dumpOf h), dumpWords_dumpOf h, dumpSize_dumpOf h, ofWords_imageWords,
    take_padImage]

/-- `DUMP2OS` returns the image whose dump stands in `IN`. -/
theorem exec_dump2os_dumpOf {s : State} {image : Bytes} (h1 : s.cfg.osT1 = some t1) (h2 : s.cfg.osT2 = some t2)
    (h : imageFits image) (hin : s.inBuf = dumpOf t1 t2 image) :
    ∃ u, exec .dump2os s = .next u ∧ u.returned (onlyBytes image) := by
  rw [exec_dump2os h1 h2, hin, dump2osRun_dumpOf h]
  exact ⟨_, rfl, returned_returnOk _ _⟩

end Os2dump

/-- Settles O26: the dump of an image is accepted, and its words are those of the image. -/
theorem dump2osInvertsOs2dump : Obligations.Dump2osInvertsOs2dump := by
  intro s t1 t2 h1 h2 hfits
  have hdump := exec_os2dump_of_fits h1 h2 hfits
  obtain ⟨u, hu, hreturned⟩ := exec_dump2os_dumpOf (s := { s.endedOk _ _ _ with inBuf := _ }) h1 h2 hfits rfl
  exact ⟨_, u, hdump, returned_endedOk _ _ _ _, hu, hreturned⟩

end Sys2Proof.Machine
end

section
/-! The page codec and the message builder (spec/44_format_converter.md R216, R218, R219): the checks of `PAGEENC`,
`PAGEDEC` and `MSGBUILD`, and what they leave in `CK` and `TKI`. -/

namespace Sys2Proof.Machine

/-! ## How the operations end -/

section Exec

variable {s : State} {key : Vector Byte 13}

theorem exec_pageenc (hkey : s.cfg.transportKey = some key) (pidx : Half) :
    exec (.pageenc pidx) s =
      .next (finish ((pageencRun key pidx s.inBuf (s.latch (latched (.pageenc pidx))).begin).andThen onlyOut)) :=
  congrArg Host.Outcome.next (withKey_of_some (s := s.latch (latched (.pageenc pidx))) hkey _)

theorem exec_pagedec (hkey : s.cfg.transportKey = some key) :
    exec .pagedec s =
      .next (finish ((pagedecRun key s.inBuf (s.latch (latched .pagedec)).begin).andThen onlyOut)) :=
  congrArg Host.Outcome.next (withKey_of_some (s := s.latch (latched .pagedec)) hkey _)

end Exec

theorem exec_msgbuild (model cmd : Byte) (s : State) :
    exec (.msgbuild model cmd) s =
      .next (finish ((msgbuildRun model cmd s.inBuf (s.latch (latched (.msgbuild model cmd))).begin).andThen
        onlyOut)) := rfl

/-! ## The registers of a page -/

/-- The checksum byte of a sequence is all that its register holds (R160). -/
theorem setWidth_ckPage (order : Config.BitOrder) (bs : Bytes) : (ckPage order bs).setWidth 9 = ckAfter order bs := by
  refine BitVec.eq_of_getLsbD_eq fun i hi => ?_
  rw [ckPage, BitVec.getLsbD_setWidth, BitVec.getLsbD_setWidth, decide_eq_true hi, Bool.true_and]
  by_cases h8 : i = 8
  · rw [h8, ckAfter_bit8, Bool.and_false]
  · rw [decide_eq_true (by omega), Bool.true_and]

/-- A plain page moves the key index to 12 (R140). -/
theorem tkiAfter_of_page (key : Vector Byte 13) {bs : Bytes} (h : bs.length = 259) : tkiAfter key bs = 12 :=
  Fin.ext (by rw [tkiAfter_val, h]; rfl)

/-! ## `PAGEENC` -/

theorem pageencRun_of_page {data : Bytes} (h : data.length = 256) (key : Vector Byte 13) (pidx : Half) (s : State) :
    pageencRun key pidx data s = .ok (pagePayload s.cfg.ckBitOrder key pidx data) (s.putPage key pidx data) :=
  if_neg (not_not_intro h)

theorem pageencRun_of_other {data : Bytes} (h : data.length ≠ 256) (key : Vector Byte 13) (pidx : Half) (s : State) :
    pageencRun key pidx data s = .raised ⟨.formatError, .check .pageDataLength⟩ s := if_pos h

theorem putPage_of_page {data : Bytes} (h : data.length = 256) (key : Vector Byte 13) (pidx : Half) (s : State) :
    s.putPage key pidx data = (s.putCk ((ckPage s.cfg.ckBitOrder data).setWidth 9)).putTki 12 := by
  rw [State.putPage, setWidth_ckPage, tkiAfter_of_page key (by rw [pagePlain_length, h])]

/-- What carries a page expands to it, ciphered (R83). -/
theorem expand_pagePayload (order : Config.BitOrder) (key : Vector Byte 13) (pidx : Half) {data : Bytes}
    (h : data.length = 256) : expand (pagePayload order key pidx data) = tcipher key (pagePlain order pidx data) :=
  expand_pack (by rw [tcipher_length, pagePlain_length, h])

/-- Every byte of a page payload is a data byte (R81). -/
theorem pagePayload_lt (order : Config.BitOrder) (key : Vector Byte 13) (pidx : Half) (data : Bytes) :
    ∀ b ∈ pagePayload order key pidx data, b.toNat < 0x80 := pack_lt _

/-- Settles O29: the length check decides how `PAGEENC` ends, and what it packs expands again. -/
theorem pageencResult : Obligations.PageencResult := by
  refine fun s key pidx hkey => ⟨fun hpage => ⟨pagePayload s.cfg.ckBitOrder key pidx s.inBuf, ?_, rfl,
    pagePayload_length _ key pidx hpage, pagePayload_lt _ key pidx _, expand_pagePayload _ key pidx hpage⟩,
    fun hother => ⟨.check .pageDataLength, ?_⟩⟩
  · rw [exec_pageenc hkey, pageencRun_of_page hpage, putPage_of_page hpage]
    rfl
  · rw [exec_pageenc hkey, pageencRun_of_other hother]
    rfl

/-! ## `PAGEDEC` -/

/-- What `PAGEDEC` leaves of a payload of the right length, whatever its checksum says (R216). -/
def State.readPage (key : Vector Byte 13) (payload : Bytes) (s : State) : State :=
  (s.putTki 12).putCk ((ckPage s.cfg.ckBitOrder ((plainOf key payload).drop 3)).setWidth 9)

section Pagedec

variable {key : Vector Byte 13} {payload : Bytes}

theorem expand_length_of_page (h : payload.length = 296) : (expand payload).length = 259 := by
  rw [expand_length, h]

theorem pagedecRun_of_length (h : payload.length = 296) (s : State) :
    pagedecRun key payload s =
      if ckPage s.cfg.ckBitOrder ((plainOf key payload).drop 3) ≠ byteAt (plainOf key payload) 2 then
        .raised ⟨.checksumMismatch, .page (pidxOf (plainOf key payload))⟩ (s.readPage key payload)
      else .ok (plainOf key payload) (s.readPage key payload) := by
  rw [State.readPage, setWidth_ckPage, ← tkiAfter_of_page key (expand_length_of_page h)]
  exact if_neg (not_not_intro h)

theorem pagedecRun_of_otherLength (h : payload.length ≠ 296) (s : State) :
    pagedecRun key payload s = .raised ⟨.formatError, .check .pagePayloadLength⟩ s := if_pos h

theorem pagedecRun_of_mismatch (h : payload.length = 296) {s : State}
    (hck : ckPage s.cfg.ckBitOrder ((plainOf key payload).drop 3) ≠ byteAt (plainOf key payload) 2) :
    pagedecRun key payload s =
      .raised ⟨.checksumMismatch, .page (pidxOf (plainOf key payload))⟩ (s.readPage key payload) :=
  (pagedecRun_of_length h s).trans (if_pos hck)

theorem pagedecRun_of_checked (h : payload.length = 296) {s : State}
    (hck : ckPage s.cfg.ckBitOrder ((plainOf key payload).drop 3) = byteAt (plainOf key payload) 2) :
    pagedecRun key payload s = .ok (plainOf key payload) (s.readPage key payload) :=
  (pagedecRun_of_length h s).trans (if_neg (not_not_intro hck))

end Pagedec

/-- `PAGEDEC` of a payload that passes both checks answers its plain payload (R216). -/
theorem exec_pagedec_of_checked {s : State} {key : Vector Byte 13} (hkey : s.cfg.transportKey = some key)
    (h : s.inBuf.length = 296)
    (hck : ckPage s.cfg.ckBitOrder ((plainOf key s.inBuf).drop 3) = byteAt (plainOf key s.inBuf) 2) :
    exec .pagedec s = .next (s.endedOk { s.par with opc := some 0x0C }
      { s.startDp .done with
        ck := (ckPage s.cfg.ckBitOrder ((plainOf key s.inBuf).drop 3)).setWidth 9, tki := 12 }
      (onlyBytes (plainOf key s.inBuf))) := by
  rw [exec_pagedec hkey, pagedecRun_of_checked (s := (s.latch (latched .pagedec)).begin) h hck]
  rfl

/-- Settles O30: the two checks of `PAGEDEC` in order, and what `PAGEENC` built passes both. -/
theorem pagedecResult : Obligations.PagedecResult := by
  refine fun s key hkey => ⟨fun hlen => ⟨.check .pagePayloadLength, ?_⟩,
    fun hlen hck => ⟨.page (pidxOf (plainOf key s.inBuf)), ?_⟩,
    fun hlen hck => ⟨(tcipher_length key _).trans (expand_length_of_page hlen), exec_pagedec_of_checked hkey hlen hck⟩,
    fun pidx data hdata hin => ?_⟩
  · rw [exec_pagedec hkey, pagedecRun_of_otherLength hlen]
    rfl
  · rw [exec_pagedec hkey, pagedecRun_of_mismatch (s := (s.latch (latched .pagedec)).begin) hlen hck]
    rfl
  · have hlen : s.inBuf.length = 296 := hin ▸ pagePayload_length _ key pidx hdata
    have hplain : plainOf key s.inBuf = pagePlain s.cfg.ckBitOrder pidx data :=
      hin ▸ plainOf_pagePayload _ key pidx hdata
    rw [exec_pagedec_of_checked hkey hlen (by rw [hplain]; rfl)]
    congr 2
    exact congrArg onlyBytes hplain

/-! ## `MSGBUILD` -/

/-- What `MSGBUILD` accepts (R219): header bytes and a payload of whole groups, all below `0x80`. -/
structure Buildable (model cmd : Byte) (payload : Bytes) : Prop where
  model : model.toNat < 0x80
  cmd : cmd.toNat < 0x80
  groups : payload.length % 8 = 0
  data : ∀ b ∈ payload, b.toNat < 0x80

theorem isDataByte_iff (b : Byte) : isDataByte b = true ↔ b.toNat < 0x80 := decide_eq_true_iff

theorem msgbuildRun_of_buildable {model cmd : Byte} {payload : Bytes} (h : Buildable model cmd payload) (s : State) :
    msgbuildRun model cmd payload s = .ok (messageBytes model cmd payload) s := by
  have hall : payload.all isDataByte = true := List.all_eq_true.mpr fun b hb => (isDataByte_iff b).mpr (h.data b hb)
  simp [msgbuildRun, (isDataByte_iff _).mpr h.model, (isDataByte_iff _).mpr h.cmd, h.groups, hall]

theorem msgbuildRun_of_not_buildable {model cmd : Byte} {payload : Bytes} (h : ¬Buildable model cmd payload)
    (s : State) : ∃ info, msgbuildRun model cmd payload s = .raised ⟨.formatError, info⟩ s := by
  unfold msgbuildRun
  split
  · exact ⟨_, rfl⟩
  next hheader =>
    split
    · exact ⟨_, rfl⟩
    next hpayload =>
      simp only [Bool.or_eq_true, Bool.not_eq_true', not_or, Bool.not_eq_false, isDataByte_iff] at hheader
      simp only [Bool.or_eq_true, decide_eq_true_eq, Bool.not_eq_true', not_or, not_not, Bool.not_eq_false,
        List.all_eq_true, isDataByte_iff] at hpayload
      exact absurd ⟨hheader.1, hheader.2, hpayload.1, hpayload.2⟩ h

theorem messageBytes_eq (model cmd : Byte) (payload : Bytes) :
    messageBytes model cmd payload = [0xF0, 0x00, 0x20, 0x32, model, cmd] ++ payload ++ [0xF7] := rfl

/-- Settles O31: the checks of `MSGBUILD` decide how it ends. -/
theorem msgbuildResult : Obligations.MsgbuildResult := by
  refine fun s model cmd => ⟨rfl, messageBytes_eq model cmd, fun hmodel hcmd hgroups hdata => ?_, fun hbad => ?_⟩
  · rw [exec_msgbuild, msgbuildRun_of_buildable ⟨hmodel, hcmd, hgroups, hdata⟩]
    rfl
  · have hnot : ¬Buildable model cmd s.inBuf := by
      rintro ⟨hmodel, hcmd, hgroups, hdata⟩
      obtain h | h | h | ⟨b, hb, h⟩ := hbad
      · exact absurd hmodel (Nat.not_lt.mpr h)
      · exact absurd hcmd (Nat.not_lt.mpr h)
      · exact h hgroups
      · exact absurd (hdata b hb) (Nat.not_lt.mpr h)
    obtain ⟨info, hrun⟩ := msgbuildRun_of_not_buildable hnot (s.latch (latched (.msgbuild model cmd))).begin
    refine ⟨info, ?_⟩
    rw [exec_msgbuild, hrun]
    rfl

end Sys2Proof.Machine
end

section
/-! The framer of `IN` (spec/44_format_converter.md R210, R211): what it makes of a stream of messages with stray bytes
between them, and of a stream that breaks off inside a message. Nothing after the framer reads what it noted of stray
bytes (`Unnoticing`), so they change no more than the events (spec/60_exceptions.md R316, R322). -/

namespace Sys2Proof.Machine

/-! ## Stray bytes -/

/-- The framer warns of the first stray byte, where there is one (R211). -/
def Framed.warn (first : Option Nat) (f : Framed) : Framed :=
  match first with
  | none => f
  | some i => f.stray i

/-- Messages after those completed (R210). -/
def Framed.addMsgs (msgs : List Bytes) (f : Framed) : Framed := ⟨f.warned, f.events, f.msgs ++ msgs⟩

theorem Framed.stray_warned (i : Nat) (f : Framed) : (f.stray i).warned = true := by
  unfold Framed.stray
  split
  · assumption
  · rfl

theorem Framed.warn_of_warned {f : Framed} (h : f.warned = true) (first : Option Nat) : f.warn first = f := by
  cases first with
  | none => rfl
  | some i => exact if_pos h

theorem Framed.warn_complete (first : Option Nat) (m : Bytes) (f : Framed) :
    (f.complete m).warn first = (f.warn first).complete m := by
  cases first with
  | none => rfl
  | some i =>
    have hwarned : (f.complete m).warned = f.warned := rfl
    simp only [Framed.warn, Framed.stray, hwarned]
    split <;> rfl

theorem Framed.addMsgs_complete (m : Bytes) (msgs : List Bytes) (f : Framed) :
    (f.complete m).addMsgs msgs = f.addMsgs (m :: msgs) := by
  simp [Framed.complete, Framed.addMsgs]

/-- Where stray bytes begin, if there are any. -/
def strayAt (i : Nat) (strays : Bytes) : Option Nat := if strays = [] then none else some i

/-- Bytes without a start byte are stray outside a message, and the first of them is warned of. -/
theorem frameFrom_strays (i : Nat) (buf rest : Bytes) (f : Framed) {strays : Bytes} (h : ∀ b ∈ strays, b ≠ 0xF0) :
    frameFrom i .outside buf f (strays ++ rest) =
      frameFrom (i + strays.length) .outside buf (f.warn (strayAt i strays)) rest := by
  induction strays generalizing i f with
  | nil => rfl
  | cons b strays ih =>
    obtain ⟨hb, hstrays⟩ := List.forall_mem_cons.mp h
    have hstep : frameFrom i .outside buf f (b :: (strays ++ rest)) =
        frameFrom (i + 1) .outside buf (f.stray i) (strays ++ rest) := if_neg hb
    have hwarn : (f.stray i).warn (strayAt (i + 1) strays) = f.warn (strayAt i (b :: strays)) :=
      Framed.warn_of_warned (Framed.stray_warned i f) _
    rw [List.cons_append, hstep, ih _ _ hstrays, hwarn, List.length_cons, Nat.add_right_comm, Nat.add_assoc]

/-! ## Messages with stray bytes between them -/

/-- The index of the first stray byte of a stream that begins at index `i` (R211). -/
def firstStray (i : Nat) (tail : Bytes) : List (Bytes × Bytes) → Option Nat
  | [] => strayAt i tail
  | (strays, body) :: segs =>
    if strays = [] then firstStray (i + (framedMsg body).length) tail segs else some i

/-- What is warned of before and after a message is warned of together. -/
theorem warn_firstStray_cons (i : Nat) (strays body tail : Bytes) (segs : List (Bytes × Bytes)) (fr : Framed) :
    ((fr.warn (strayAt i strays)).complete (framedMsg body)).warn
        (firstStray (i + strays.length + body.length + 2) tail segs) =
      (fr.warn (firstStray i tail ((strays, body) :: segs))).complete (framedMsg body) := by
  rw [Framed.warn_complete]
  by_cases hnone : strays = []
  · simp [hnone, firstStray, strayAt, Framed.warn, framedMsg, Nat.add_assoc]
  · have hfirst : firstStray i tail ((strays, body) :: segs) = some i := if_neg hnone
    have hat : strayAt i strays = some i := if_neg hnone
    rw [hfirst, hat]
    exact congrArg _ (Framed.warn_of_warned (Framed.stray_warned i fr) _)

/-- The last message of a stream is what the framer's buffer holds after it. -/
def lastMsg (buf : Bytes) (msgs : List Bytes) : Bytes := msgs.getLast?.getD buf

theorem lastMsg_cons (buf m : Bytes) (msgs : List Bytes) : lastMsg buf (m :: msgs) = lastMsg m msgs := by
  simp only [lastMsg, List.getLast?_cons, Option.getD_some]

/-- The messages of a stream, in order. -/
def Framing.msgs (f : Framing) : List Bytes := f.segs.map fun p => framedMsg p.2

/-- The framer over messages and stray bytes, whatever follows them. -/
theorem frameFrom_framing {f : Framing} (hf : f.sound) (i : Nat) (buf rest : Bytes) (fr : Framed) :
    frameFrom i .outside buf fr (f.stream ++ rest) =
      frameFrom (i + f.stream.length) .outside (lastMsg buf f.msgs)
        ((fr.warn (firstStray i f.tail f.segs)).addMsgs f.msgs) rest := by
  obtain ⟨segs, tail⟩ := f
  obtain ⟨hsegs, htail⟩ := hf
  induction segs generalizing i buf fr with
  | nil =>
    refine (frameFrom_strays i buf rest fr htail).trans ?_
    simp [Framing.msgs, lastMsg, firstStray, Framed.addMsgs, Framing.stream]
  | cons p segs ih =>
    obtain ⟨strays, body⟩ := p
    obtain ⟨⟨hstrays, hbody⟩, hrest⟩ := List.forall_mem_cons.mp hsegs
    have hstream : Framing.stream ⟨(strays, body) :: segs, tail⟩ ++ rest =
        strays ++ (framedMsg body ++ (Framing.stream ⟨segs, tail⟩ ++ rest)) := by
      simp [Framing.stream]
    have hlen : i + (Framing.stream ⟨(strays, body) :: segs, tail⟩).length =
        i + strays.length + body.length + 2 + (Framing.stream ⟨segs, tail⟩).length := by
      simp [Framing.stream, framedMsg]
      omega
    rw [hstream, frameFrom_strays _ _ _ _ hstrays, frameFrom_message _ _ _ _ _ hbody, ih _ _ _ hrest htail,
      warn_firstStray_cons, Framed.addMsgs_complete, hlen]
    simp only [Framing.msgs, List.map_cons, lastMsg_cons]

/-! ## The first stray byte -/

/-- Index `n` of a stream is its first stray byte: before it stand whole messages only (R211). -/
def Framing.StrayAt (f : Framing) (n : Nat) : Prop :=
  n < f.stream.length ∧ byteAt f.stream n ≠ 0xF0 ∧ ∃ k, (∀ p ∈ f.segs.take k, p.1 = []) ∧
    f.stream.take n = ((f.segs.take k).map fun p => framedMsg p.2).flatten

/-- A stray byte at the start of a stream is its first. -/
theorem Framing.strayAt_zero {f : Framing} {b : Byte} {rest : Bytes} (hstream : f.stream = b :: rest)
    (hb : b ≠ 0xF0) : f.StrayAt 0 := by
  refine ⟨by simp [hstream], ?_, 0, fun p hp => absurd hp (by simp), rfl⟩
  rw [hstream]
  exact hb

theorem byteAt_append_right (bs cs : Bytes) (i : Nat) : byteAt (bs ++ cs) (bs.length + i) = byteAt cs i := by
  rw [← byteAt_drop, List.drop_left]

/-- A message without stray bytes before it moves the first stray byte by its length. -/
theorem Framing.StrayAt.cons {segs : List (Bytes × Bytes)} {tail : Bytes} {n : Nat} (body : Bytes)
    (h : Framing.StrayAt ⟨segs, tail⟩ n) :
    Framing.StrayAt ⟨([], body) :: segs, tail⟩ ((framedMsg body).length + n) := by
  obtain ⟨hlt, hbyte, k, hstrays, htake⟩ := h
  have hstream : Framing.stream ⟨([], body) :: segs, tail⟩ = framedMsg body ++ Framing.stream ⟨segs, tail⟩ := by
    simp [Framing.stream]
  refine ⟨?_, ?_, k + 1, ?_, ?_⟩
  · rw [hstream, List.length_append]
    omega
  · rwa [hstream, byteAt_append_right]
  · rw [List.take_succ_cons]
    exact List.forall_mem_cons.mpr ⟨rfl, hstrays⟩
  · rw [hstream, List.take_length_add_append, htake, List.take_succ_cons, List.map_cons, List.flatten_cons]

/-- Where the framer finds no stray byte, there is none. -/
theorem firstStray_eq_none {i : Nat} {tail : Bytes} {segs : List (Bytes × Bytes)}
    (h : firstStray i tail segs = none) : Framing.noStray ⟨segs, tail⟩ := by
  induction segs generalizing i with
  | nil =>
    refine ⟨by simp, ?_⟩
    by_contra htail
    cases (if_neg htail).symm.trans h
  | cons p segs ih =>
    by_cases hp : p.1 = []
    · obtain ⟨hsegs, htail⟩ := ih ((if_pos hp).symm.trans h)
      exact ⟨List.forall_mem_cons.mpr ⟨hp, hsegs⟩, htail⟩
    · cases (if_neg hp).symm.trans h

/-- What the framer warns of is the first stray byte. -/
theorem strayAt_of_firstStray {i j : Nat} {f : Framing} (hf : f.sound) (h : firstStray i f.tail f.segs = some j) :
    ∃ n, j = i + n ∧ f.StrayAt n := by
  obtain ⟨segs, tail⟩ := f
  obtain ⟨hsegs, htail⟩ := hf
  induction segs generalizing i with
  | nil =>
    cases tail with
    | nil => cases h
    | cons b tail =>
      cases h
      exact ⟨0, rfl, Framing.strayAt_zero rfl (htail b List.mem_cons_self)⟩
  | cons p segs ih =>
    obtain ⟨strays, body⟩ := p
    obtain ⟨⟨hstrays, -⟩, hrest⟩ := List.forall_mem_cons.mp hsegs
    cases strays with
    | nil =>
      obtain ⟨n, rfl, hn⟩ := ih h hrest htail
      exact ⟨(framedMsg body).length + n, Nat.add_assoc _ _ _, hn.cons body⟩
    | cons b strays =>
      cases h
      exact ⟨0, rfl, Framing.strayAt_zero rfl (hstrays b List.mem_cons_self)⟩

/-! ## `FRAME` of a stream -/

/-- The index of the first stray byte of a stream. -/
def Framing.first (f : Framing) : Option Nat := firstStray 0 f.tail f.segs

/-- The events of a stream: the warning of its first stray byte (R211). -/
def Framing.events (f : Framing) : List Event := f.first.toList.map .warnStray

/-- The framer at the end of a stream. -/
def Framing.run (f : Framing) : FrameRun :=
  ⟨.outside, lastMsg [] f.msgs, ⟨f.first.isSome, f.events, f.msgs⟩, none⟩

theorem Framing.start_warn (f : Framing) :
    (Framed.start.warn f.first).addMsgs f.msgs = ⟨f.first.isSome, f.events, f.msgs⟩ := by
  unfold Framing.events
  cases f.first <;> rfl

theorem frameFrom_stream {f : Framing} (hf : f.sound) : frameFrom 0 .outside [] Framed.start f.stream = f.run := by
  have h := frameFrom_framing hf 0 [] [] Framed.start
  rw [List.append_nil] at h
  exact h.trans (congrArg (FrameRun.mk _ _ · _) f.start_warn)

theorem frameIn_stream {f : Framing} (hf : f.sound) (s : State) :
    frameIn f.stream s = .ok f.msgs (s.putFrame f.run) := by
  rw [frameIn, frameFrom_stream hf]
  rfl

/-! ## Messages alone -/

/-- Messages without a stray byte, as a stream. -/
def Framing.ofBodies (bodies : List Bytes) : Framing := ⟨bodies.map fun body => ([], body), []⟩

section OfBodies

variable {bodies : List Bytes}

theorem Framing.ofBodies_sound (h : ∀ body ∈ bodies, ∀ b ∈ body, b.toNat < 0x80) :
    (Framing.ofBodies bodies).sound :=
  ⟨List.forall_mem_map.mpr fun body hbody => ⟨List.forall_mem_nil _, h body hbody⟩, List.forall_mem_nil _⟩

theorem Framing.ofBodies_stream : (Framing.ofBodies bodies).stream = framedBytes bodies := by
  simp [Framing.ofBodies, Framing.stream, framedBytes, Function.comp_def]

theorem Framing.ofBodies_msgs : (Framing.ofBodies bodies).msgs = bodies.map framedMsg := by
  simp [Framing.ofBodies, Framing.msgs, Function.comp_def]

theorem firstStray_ofBodies (i : Nat) (bodies : List Bytes) :
    firstStray i [] (bodies.map fun body => ([], body)) = none := by
  induction bodies generalizing i with
  | nil => rfl
  | cons body bodies ih => exact ih _

/-- The framer's registers after whole messages without a stray byte. -/
def State.framedAll (msgs : List Bytes) (s : State) : State :=
  s.putFrame ⟨.outside, lastMsg [] msgs, ⟨false, [], msgs⟩, none⟩

theorem frameIn_framedBytes (h : ∀ body ∈ bodies, ∀ b ∈ body, b.toNat < 0x80) (s : State) :
    frameIn (framedBytes bodies) s = .ok (bodies.map framedMsg) (s.framedAll (bodies.map framedMsg)) := by
  have hfirst : (Framing.ofBodies bodies).first = none := firstStray_ofBodies 0 bodies
  rw [← Framing.ofBodies_stream, frameIn_stream (Framing.ofBodies_sound h), Framing.run, Framing.events, hfirst,
    Framing.ofBodies_msgs]
  rfl

end OfBodies

/-- The messages of a stream, without the bytes that frame them. -/
def Framing.bodies (f : Framing) : List Bytes := f.segs.map (·.2)

theorem Framing.clean_eq (f : Framing) : f.clean = framedBytes f.bodies := by
  rw [framedBytes, Framing.bodies, List.map_map]
  rfl

theorem Framing.msgs_eq (f : Framing) : f.msgs = f.bodies.map framedMsg := by
  rw [Framing.bodies, List.map_map]
  rfl

theorem Framing.bodies_lt {f : Framing} (hf : f.sound) : ∀ body ∈ f.bodies, ∀ b ∈ body, b.toNat < 0x80 :=
  List.forall_mem_map.mpr fun p hp => (hf.1 p hp).2

/-! ## A stream that breaks off -/

/-- What stands after the start byte and the data bytes of a message that is never completed: nothing, or a status byte
other than the end byte (R210). -/
def BreaksOff (rest : Bytes) : Prop := rest = [] ∨ ∃ x tail, rest = x :: tail ∧ 0x80 ≤ x.toNat ∧ x ≠ 0xF7

theorem frameFrom_broken (i : Nat) (buf : Bytes) (fr : Framed) {body rest : Bytes}
    (hbody : ∀ b ∈ body, b.toNat < 0x80) (hrest : BreaksOff rest) :
    ∃ info, frameFrom i .inside buf fr (body ++ rest) = ⟨.inside, buf ++ body, fr, some ⟨.formatError, info⟩⟩ := by
  induction body generalizing i buf with
  | nil =>
    rw [List.append_nil]
    obtain rfl | ⟨x, tail, rfl, hstatus, hend⟩ := hrest
    · exact ⟨_, rfl⟩
    · exact ⟨_, (if_neg hend).trans (if_pos hstatus)⟩
  | cons b body ih =>
    obtain ⟨hb, hbody⟩ := List.forall_mem_cons.mp hbody
    have hend : b ≠ Config.eox := by rintro rfl; exact absurd hb (by decide)
    have hstep : frameFrom i .inside buf fr (b :: (body ++ rest)) =
        frameFrom (i + 1) .inside (buf ++ [b]) fr (body ++ rest) := (if_neg hend).trans (if_neg (Nat.not_le.mpr hb))
    obtain ⟨info, h⟩ := ih (i + 1) (buf ++ [b]) hbody
    exact ⟨info, by rw [List.cons_append, hstep, h, List.append_assoc, List.singleton_append]⟩

/-- The framer raises `FormatError` where the stream breaks off, with the part read in its buffer. -/
theorem frameIn_broken {f : Framing} {body rest : Bytes} (hf : f.sound) (hbody : ∀ b ∈ body, b.toNat < 0x80)
    (hrest : BreaksOff rest) (s : State) :
    ∃ info r, frameIn (f.stream ++ 0xF0 :: body ++ rest) s = .raised ⟨.formatError, info⟩ (s.putFrame r) ∧
      r.fstate = .inside ∧ r.fbuf = 0xF0 :: body := by
  have hstream := frameFrom_framing hf 0 [] (0xF0 :: (body ++ rest)) Framed.start
  obtain ⟨info, hbroken⟩ := frameFrom_broken (0 + f.stream.length + 1) [0xF0]
    ((Framed.start.warn (firstStray 0 f.tail f.segs)).addMsgs f.msgs) hbody hrest
  have hrun := hstream.trans hbroken
  refine ⟨info, ⟨.inside, 0xF0 :: body, (Framed.start.warn (firstStray 0 f.tail f.segs)).addMsgs f.msgs,
    some ⟨.formatError, info⟩⟩, ?_, rfl, rfl⟩
  rw [frameIn, List.append_assoc, List.cons_append, hrun]
  rfl

/-! ## What follows the framer -/

/-- A state with another `IN` and other notes of stray bytes. -/
def State.noted (input : Bytes) (warned : Bool) (events : List Event) (s : State) : State :=
  { s with inBuf := input, dp := { s.dp with warned := warned, events := events } }

/-- A part of an operation with another state left. -/
def Run.on {α : Type} (f : State → State) : Run α → Run α
  | .ok a s => .ok a (f s)
  | .raised e s => .raised e (f s)

/-- A part of an operation reads neither `IN` nor what the framer noted of stray bytes, and leaves both. -/
def Unnoticing {α : Type} (k : State → Run α) : Prop :=
  ∀ input warned events s, k (s.noted input warned events) = (k s).on (State.noted input warned events)

theorem Unnoticing.andThen {α β : Type} {k : State → Run α} {l : α → State → Run β} (hk : Unnoticing k)
    (hl : ∀ a, Unnoticing (l a)) : Unnoticing fun s => (k s).andThen l := by
  intro input warned events s
  simp only [hk input warned events s]
  cases k s with
  | ok a t => exact hl a input warned events t
  | raised e t => rfl

theorem checkFamily_unnoticing (fam : Family) : Unnoticing (checkFamily fam) := by
  intro input warned events s
  have hfamily : (s.noted input warned events).dp.family = s.dp.family := rfl
  unfold checkFamily
  rw [hfamily]
  split
  · rfl
  · split <;> rfl
  · split <;> rfl

theorem pagedecRun_unnoticing (key : Vector Byte 13) (payload : Bytes) : Unnoticing (pagedecRun key payload) := by
  intro input warned events s
  have hcfg : (s.noted input warned events).cfg = s.cfg := rfl
  unfold pagedecRun
  rw [hcfg]
  dsimp only
  split
  · rfl
  · split <;> rfl

theorem checkContiguous_unnoticing (a : Addr) : Unnoticing (checkContiguous a) := by
  intro input warned events s
  have hlast : (s.noted input warned events).dp.lastAddr = s.dp.lastAddr := rfl
  unfold checkContiguous
  rw [hlast]
  split
  · rfl
  · split <;> rfl

theorem dumpPage_unnoticing (key : Vector Byte 13) (m : Bytes) : Unnoticing (dumpPage key m) :=
  (checkFamily_unnoticing _).andThen fun _ => (pagedecRun_unnoticing key _).andThen fun _ =>
    (checkContiguous_unnoticing _).andThen fun _ _ _ _ _ => rfl

theorem dumpMsgs_unnoticing (key : Vector Byte 13) (msgs : List Bytes) : Unnoticing (dumpMsgs key msgs) := by
  induction msgs with
  | nil => exact fun _ _ _ _ => rfl
  | cons m rest ih =>
    intro input warned events s
    unfold dumpMsgs
    split
    · exact ih input warned events s
    · exact (dumpPage_unnoticing key m).andThen (fun _ => ih.andThen fun _ _ _ _ _ => rfl) input warned events s

theorem dumpFinish_unnoticing (d : Bytes) : Unnoticing (dumpFinish d) := by
  intro input warned events s
  have hfamily : (s.noted input warned events).dp.family = s.dp.family := rfl
  unfold dumpFinish
  rw [hfamily]
  split <;> rfl

theorem dump2osRun_unnoticing (t1 : Vector Word 15) (t2 : Vector Word 14) (dump : Bytes) :
    Unnoticing (dump2osRun t1 t2 dump) := by
  intro input warned events s
  unfold dump2osRun
  dsimp only
  split
  · rfl
  split
  · rfl
  split
  · rfl
  split <;> rfl

theorem openPort_unnoticing (c : Byte) : Unnoticing (openPort c) := by
  intro input warned events s
  have hchans : (s.noted input warned events).channels = s.channels := rfl
  unfold openPort
  rw [hchans]
  split <;> rfl

theorem receive_noted (t : TimeoutClass) (skip : Bytes → Bool) (input : Bytes) (warned : Bool) (events : List Event)
    (s : State) : (s.noted input warned events).receive t skip =
      ((s.receive t skip).1, (s.receive t skip).2.noted input warned events) := by
  have hport : (s.noted input warned events).openChan = s.openChan := rfl
  unfold State.receive
  rw [hport]
  split <;> rfl

theorem acceptAck_unnoticing (key : Vector Byte 13) (m : Bytes) : Unnoticing (acceptAck key m) := by
  intro input warned events s
  have hcfg : (s.noted input warned events).cfg = s.cfg := rfl
  have hput : (s.noted input warned events).putAck key (payloadOf m) =
      (s.putAck key (payloadOf m)).noted input warned events := by
    unfold State.putAck
    rw [hcfg]
    split <;> rfl
  unfold acceptAck
  dsimp only
  rw [hcfg, hput]
  split
  · rfl
  split
  · rfl
  split <;> rfl

theorem waitAck_unnoticing (key : Vector Byte 13) (t : TimeoutClass) : Unnoticing (waitAck key t) := by
  intro input warned events s
  unfold waitAck
  rw [receive_noted]
  cases s.receive t ackSkips with
  | mk m u =>
    cases m with
    | none => rfl
    | some m => exact acceptAck_unnoticing key m input warned events u

theorem putTrigger_noted (key : Vector Byte 13) (m input : Bytes) (warned : Bool) (events : List Event) (s : State) :
    (s.noted input warned events).putTrigger key m = (s.putTrigger key m).noted input warned events := by
  unfold State.putTrigger
  split <;> rfl

theorem uploadFrom_unnoticing (key : Vector Byte 13) (first : Bool) (msgs : List Bytes) :
    Unnoticing (uploadFrom key first msgs) := by
  induction msgs generalizing first with
  | nil => exact fun _ _ _ _ => rfl
  | cons m rest ih =>
    intro input warned events s
    have hsent := putTrigger_noted key m input warned events ((s.setSeq .upSend).sendMsg m)
    have hwait : Unnoticing fun s => (waitAck key (waitClass first) s).andThen fun r s =>
        uploadFrom key false rest (s.addReport r) :=
      (waitAck_unnoticing key _).andThen fun r input warned events s => ih false input warned events (s.addReport r)
    unfold uploadFrom
    dsimp only
    split
    · refine Eq.trans ?_ (hwait input warned events _)
      exact congrArg (fun u : State => (waitAck key (waitClass first) (u.setSeq .upWaitAck)).andThen _) hsent
    · exact (congrArg (uploadFrom key first rest) hsent).trans (ih first input warned events _)

/-! ## Stray bytes change nothing else -/

/-- Both runs are one run, but for `IN` and what the framer noted: `events` in the first, nothing in the second. -/
def SameButNotes {α : Type} (events : List Event) (r r' : Run α) : Prop :=
  ∃ (q : Run α) (input input' : Bytes) (warned : Bool),
    r = q.on (State.noted input warned events) ∧ r' = q.on (State.noted input' false [])

theorem Run.on_andThen {α β : Type} {k : α → State → Run β} (hk : ∀ a, Unnoticing (k a)) (r : Run α) (input : Bytes)
    (warned : Bool) (events : List Event) :
    (r.on (State.noted input warned events)).andThen k = (r.andThen k).on (State.noted input warned events) := by
  cases r with
  | ok a s => exact hk a input warned events s
  | raised e s => rfl

theorem SameButNotes.andThen {α β : Type} {events : List Event} {r r' : Run α} {k : α → State → Run β}
    (h : SameButNotes events r r') (hk : ∀ a, Unnoticing (k a)) :
    SameButNotes events (r.andThen k) (r'.andThen k) := by
  obtain ⟨q, input, input', warned, rfl, rfl⟩ := h
  exact ⟨q.andThen k, input, input', warned, q.on_andThen hk input warned events, q.on_andThen hk input' false []⟩

/-- The framer answers the same messages with stray bytes between them and without. -/
theorem frameIn_sameButNotes {f : Framing} (hf : f.sound) (s : State) :
    SameButNotes f.events (frameIn f.stream s) (frameIn f.clean { s with inBuf := f.clean }) := by
  refine ⟨.ok f.msgs (s.putFrame f.run), s.inBuf, f.clean, f.first.isSome, frameIn_stream hf s, ?_⟩
  rw [f.clean_eq, frameIn_framedBytes (Framing.bodies_lt hf), ← f.msgs_eq]
  rfl

/-- Two ends of an operation that differ in nothing but the events, of which the second has none. -/
structure EndsAlike (events : List Event) (t u : State) : Prop where
  errKind : t.errKind = u.errKind
  returned : ∀ o, t.returned o ↔ u.returned o
  sent : t.sent = u.sent
  channels : t.channels = u.channels
  cleanEvents : u.lastEvents = []
  events : t.lastEvents = events

theorem returnOk_endsAlike (o : Output) (input input' : Bytes) (warned : Bool) (events : List Event) (s : State) :
    EndsAlike events ((s.noted input warned events).returnOk o) ((s.noted input' false []).returnOk o) :=
  ⟨rfl, fun o' => (returned_returnOk_iff _ _ o').trans (returned_returnOk_iff _ _ o').symm, rfl, rfl, rfl, rfl⟩

theorem returnError_endsAlike (e : Err) (input input' : Bytes) (warned : Bool) (events : List Event) (s : State) :
    EndsAlike events ((s.noted input warned events).returnError e) ((s.noted input' false []).returnError e) :=
  ⟨rfl, fun o => iff_of_false (not_returned_returnError _ e o) (not_returned_returnError _ e o), rfl, rfl, rfl, rfl⟩

theorem finish_endsAlike {events : List Event} {r r' : Run Output} (h : SameButNotes events r r') :
    EndsAlike events (finish r) (finish r') := by
  obtain ⟨q, input, input', warned, rfl, rfl⟩ := h
  cases q with
  | ok o s => exact returnOk_endsAlike o input input' warned events (s.setSeq .done)
  | raised e s => exact returnError_endsAlike e input input' warned events (s.setSeq .failed)

theorem closePort_noted (input : Bytes) (warned : Bool) (events : List Event) (s : State) :
    (s.noted input warned events).closePort = s.closePort.noted input warned events := by
  have hport : (s.noted input warned events).openChan = s.openChan := rfl
  unfold State.closePort
  rw [hport]
  split <;> rfl

theorem setSeq_noted (q : SeqState) (input : Bytes) (warned : Bool) (events : List Event) (s : State) :
    (s.noted input warned events).setSeq q = (s.setSeq q).noted input warned events := rfl

theorem finishChannel_endsAlike {events : List Event} {r r' : Run Output} (h : SameButNotes events r r') :
    EndsAlike events (finishChannel r) (finishChannel r') := by
  obtain ⟨q, input, input', warned, rfl, rfl⟩ := h
  cases q with
  | ok o s =>
    simp only [Run.on, finishChannel_ok, closePort_noted]
    exact returnOk_endsAlike o input input' warned events s.closePort
  | raised e s =>
    simp only [Run.on, finishChannel_raised, setSeq_noted, closePort_noted]
    exact returnError_endsAlike e input input' warned events (s.setSeq .failed).closePort

/-! ## The operations that frame `IN` -/

section Readers

variable {s : State} {key : Vector Byte 13}

theorem exec_frame (s : State) :
    exec .frame s = .next (finish ((frameIn s.inBuf (s.latch (latched .frame)).begin).andThen fun msgs s =>
      onlyOut msgs.flatten s)) := rfl

theorem exec_upload (hkey : s.cfg.transportKey = some key) (chan : Byte) :
    exec (.upload chan) s =
      .next (finishChannel (uploadRun key chan s.inBuf (s.latch (latched (.upload chan))).begin)) :=
  congrArg Host.Outcome.next (withKey_of_some (s := s.latch (latched (.upload chan))) hkey _)

/-- The instruction frames `IN`, and the tables it needs beside the key are configured. -/
def ReadsStream (i : Instr) (s : State) : Prop :=
  i = .syx2dump ∨ (i = .syx2os ∧ s.cfg.osT1 ≠ none ∧ s.cfg.osT2 ≠ none) ∨ ∃ chan, i = .upload chan

theorem syx2dumpRun_sameButNotes {f : Framing} (hf : f.sound) (s : State) :
    SameButNotes f.events (syx2dumpRun key f.stream s) (syx2dumpRun key f.clean { s with inBuf := f.clean }) :=
  (frameIn_sameButNotes hf s).andThen fun msgs => (dumpMsgs_unnoticing key msgs).andThen dumpFinish_unnoticing

theorem uploadRun_sameButNotes {f : Framing} (hf : f.sound) (chan : Byte) (s : State) :
    SameButNotes f.events (uploadRun key chan f.stream s) (uploadRun key chan f.clean { s with inBuf := f.clean }) :=
  (frameIn_sameButNotes hf s).andThen fun msgs => (openPort_unnoticing chan).andThen fun _ =>
    (uploadFrom_unnoticing key true msgs).andThen fun _ _ _ _ _ => rfl

/-- `SYX2DUMP`, `SYX2OS` and `UPLOAD` of a stream end as of its messages alone, with its events. -/
theorem exec_endsAlike {f : Framing} (hf : f.sound) (hin : s.inBuf = f.stream) (hkey : s.cfg.transportKey = some key)
    {i : Instr} (hi : ReadsStream i s) :
    ∃ t u, exec i s = .next t ∧ exec i { s with inBuf := f.clean } = .next u ∧ EndsAlike f.events t u := by
  obtain rfl | ⟨rfl, ht1, ht2⟩ | ⟨chan, rfl⟩ := hi
  · refine ⟨_, _, exec_syx2dump hkey, exec_syx2dump (s := { s with inBuf := f.clean }) hkey, ?_⟩
    rw [hin]
    exact finish_endsAlike (syx2dumpRun_sameButNotes hf (s.latch (latched .syx2dump)).begin)
  · obtain ⟨t1, h1⟩ := Option.ne_none_iff_exists'.mp ht1
    obtain ⟨t2, h2⟩ := Option.ne_none_iff_exists'.mp ht2
    refine ⟨_, _, exec_syx2os hkey h1 h2, exec_syx2os (s := { s with inBuf := f.clean }) hkey h1 h2, ?_⟩
    rw [hin]
    exact finish_endsAlike <| (syx2dumpRun_sameButNotes hf (s.latch (latched .syx2os)).begin).andThen fun o =>
      (dump2osRun_unnoticing t1 t2 o.out).andThen fun _ _ _ _ _ => rfl
  · refine ⟨_, _, exec_upload hkey chan, exec_upload (s := { s with inBuf := f.clean }) hkey chan, ?_⟩
    rw [hin]
    exact finishChannel_endsAlike (uploadRun_sameButNotes hf chan (s.latch (latched (.upload chan))).begin)

/-- The datapath after `FRAME` of a stream. -/
def Framing.endDp (f : Framing) (s : State) : Datapath :=
  { s.startDp .done with fbuf := f.run.fbuf, warned := f.first.isSome, events := f.events }

theorem exec_frame_stream {f : Framing} (hf : f.sound) (hin : s.inBuf = f.stream) :
    exec .frame s = .next (s.endedOk { s.par with opc := some 0x0B } (f.endDp s) (onlyBytes f.clean)) := by
  rw [exec_frame, hin, frameIn_stream hf]
  rfl

/-- A stream without a stray byte gives no event; every other one gives the warning of its first (R211). -/
theorem Framing.events_cases {f : Framing} (hf : f.sound) :
    f.first.isSome = false ∧ f.events = [] ∧ f.noStray ∨
      f.first.isSome = true ∧ ∃ n, f.events = [.warnStray n] ∧ f.StrayAt n := by
  unfold Framing.events
  cases hfirst : f.first with
  | none => exact .inl ⟨rfl, rfl, firstStray_eq_none hfirst⟩
  | some j =>
    obtain ⟨n, hj, hn⟩ := strayAt_of_firstStray hf hfirst
    rw [Nat.zero_add] at hj
    exact .inr ⟨rfl, n, by rw [hj]; rfl, hn⟩

end Readers

/-- Settles O27: the framer splits the stream and warns of its first stray byte, and nothing after it notices one. -/
theorem frameSplitsStream : Obligations.FrameSplitsStream := by
  intro s f hf hin
  refine ⟨f.endDp s, exec_frame_stream hf hin, rfl, ?_, fun i hi hconfigured => ?_⟩
  · obtain hclean | ⟨hwarned, n, hevents, hlt, hbyte, k, hstrays, htake⟩ := f.events_cases hf
    · exact .inl hclean
    · rw [hin]
      exact .inr ⟨hwarned, n, k, hevents, hlt, hbyte, hstrays, htake⟩
  · obtain ⟨key, hkey⟩ := Option.ne_none_iff_exists'.mp hconfigured
    obtain ⟨t, u, ht, hu, hends⟩ := exec_endsAlike hf hin hkey hi
    exact ⟨t, u, ht, hu, hends.errKind, hends.returned, hends.sent, hends.channels, hends.cleanEvents, hends.events⟩

/-! ## The end of an operation whose stream breaks off -/

/-- An operation that ended with `FormatError` before it touched the channel. -/
structure RejectsStream (s t : State) : Prop where
  errKind : t.errKind = some .formatError
  seq : t.dp.seq = .failed
  sent : t.sent = s.sent
  channels : t.channels = s.channels

theorem finish_rejectsStream {s u : State} {info : Info} (hsent : u.sent = s.sent) (hchans : u.channels = s.channels) :
    RejectsStream s (finish (.raised ⟨.formatError, info⟩ u)) :=
  ⟨rfl, rfl, (setSeq_sent .failed u).trans hsent, hchans⟩

theorem finishChannel_rejectsStream {s u : State} {info : Info} (hsent : u.sent = s.sent)
    (hchans : u.channels = s.channels) : RejectsStream s (finishChannel (.raised ⟨.formatError, info⟩ u)) where
  errKind := rfl
  seq := by simp
  sent := (closePort_sent _).trans ((setSeq_sent .failed u).trans hsent)
  channels := by simp [hchans]

/-- `SYX2DUMP`, `SYX2OS` and `UPLOAD` raise what the framer raises, before they touch the channel. -/
theorem exec_rejectsStream {s : State} {key : Vector Byte 13} (hkey : s.cfg.transportKey = some key)
    (hframe : ∀ s', ∃ info r, frameIn s.inBuf s' = .raised ⟨.formatError, info⟩ (s'.putFrame r))
    {i : Instr} (hi : ReadsStream i s) : ∃ t, exec i s = .next t ∧ RejectsStream s t := by
  obtain ⟨info, r, hraised⟩ := hframe (s.latch (latched i)).begin
  obtain rfl | ⟨rfl, ht1, ht2⟩ | ⟨chan, rfl⟩ := hi
  · refine ⟨_, exec_syx2dump hkey, ?_⟩
    rw [syx2dumpRun, hraised]
    exact finish_rejectsStream rfl rfl
  · obtain ⟨t1, h1⟩ := Option.ne_none_iff_exists'.mp ht1
    obtain ⟨t2, h2⟩ := Option.ne_none_iff_exists'.mp ht2
    refine ⟨_, exec_syx2os hkey h1 h2, ?_⟩
    rw [syx2dumpRun, hraised]
    exact finish_rejectsStream rfl rfl
  · refine ⟨_, exec_upload hkey chan, ?_⟩
    rw [uploadRun, hraised]
    exact finishChannel_rejectsStream rfl rfl

/-- Settles O28: the framer raises the error with the part read in its buffer, and every reader raises it before the
channel. -/
theorem frameRejectsMalformed : Obligations.FrameRejectsMalformed := by
  intro s f body rest hf hbody hin hrest
  refine ⟨?_, fun i hi hconfigured => ?_⟩
  · obtain ⟨info, r, hraised, hfstate, hfbuf⟩ := frameIn_broken hf hbody hrest (s.latch (latched .frame)).begin
    refine ⟨{ s.startDp .failed with
      fstate := r.fstate, fbuf := r.fbuf, warned := r.framed.warned, events := r.framed.events }, info, ?_, ?_⟩
    · rw [exec_frame, hin, hraised]
      rfl
    · rw [hfstate, hfbuf]
  · obtain ⟨key, hkey⟩ := Option.ne_none_iff_exists'.mp hconfigured
    have hframe : ∀ s', ∃ info r, frameIn s.inBuf s' = .raised ⟨.formatError, info⟩ (s'.putFrame r) := fun s' => by
      obtain ⟨info, r, hraised, -⟩ := frameIn_broken hf hbody hrest s'
      exact ⟨info, r, hin ▸ hraised⟩
    obtain ⟨t, ht, hends⟩ := exec_rejectsStream hkey hframe hi
    exact ⟨t, ht, hends.errKind, hends.seq, hends.sent, hends.channels⟩

end Sys2Proof.Machine
end

section
/-! `SYX2DUMP` message by message (spec/44_format_converter.md R212 to R226): the messages it skips, the checks of a
page in their order, and what stands in the registers after any number of good pages. -/

namespace Sys2Proof.Machine

/-! ## The messages of a stream -/

/-- A message is manufacturer-matching in the words of R212. -/
theorem isMfr_iff (m : Bytes) : isMfr m = true ↔ mfrMessage m := by
  unfold isMfr mfrMessage
  rw [Bool.and_eq_true, decide_eq_true_iff]
  refine and_congr_right fun hlen => ?_
  match m, hlen with
  | _ :: b :: c :: d :: _, _ => simp [byteAt, Config.manuf]

/-- A skipped message is of no family (R212, R214). -/
theorem familyOf_of_skipped {body : Bytes} (h : skipped body) : familyOf (framedMsg body) = .none := by
  unfold familyOf classify
  by_cases hmfr : isMfr (framedMsg body) = true
  · have hcmd := fun hc => h.2 ⟨(isMfr_iff _).mp hmfr, hc⟩
    rw [if_pos hmfr]
    exact (if_neg fun hc => hcmd (.inl hc)).trans (if_neg fun hc => hcmd (.inr hc))
  · rw [if_neg hmfr]

/-- The family of a firmware command (R214). -/
def cmdFamily (cmd : Byte) : Family := if cmd = 0x74 then .readback else .write

/-- The command is one of a firmware family (R214). -/
def IsPageCmd (cmd : Byte) : Prop := cmd = 0x74 ∨ cmd = 0x34

theorem cmdFamily_ne_none (cmd : Byte) : cmdFamily cmd ≠ .none := by
  unfold cmdFamily
  split <;> decide

theorem familyOf_messageBytes {cmd : Byte} (h : IsPageCmd cmd) (model : Byte) (payload : Bytes) :
    familyOf (messageBytes model cmd payload) = cmdFamily cmd := by
  rw [familyOf, classify_messageBytes]
  obtain rfl | rfl := h <;> rfl

/-- Different firmware commands are of different families (R214). -/
theorem cmdFamily_ne {c cmd : Byte} (hc : IsPageCmd c) (hcmd : IsPageCmd cmd) (h : c ≠ cmd) :
    cmdFamily c ≠ cmdFamily cmd := by
  obtain rfl | rfl := hc <;> obtain rfl | rfl := hcmd
  · exact absurd rfl h
  · decide
  · decide
  · exact absurd rfl h

/-- What stands between the start byte and the end byte of a message (R80). -/
def msgBody (model cmd : Byte) (payload : Bytes) : Bytes := 0x00 :: 0x20 :: 0x32 :: model :: cmd :: payload

theorem framedMsg_msgBody (model cmd : Byte) (payload : Bytes) :
    framedMsg (msgBody model cmd payload) = messageBytes model cmd payload := rfl

theorem msgBody_lt {model cmd : Byte} {payload : Bytes} (hmodel : model.toNat < 0x80) (hcmd : IsPageCmd cmd)
    (hpayload : ∀ b ∈ payload, b.toNat < 0x80) : ∀ b ∈ msgBody model cmd payload, b.toNat < 0x80 := by
  have hc : cmd.toNat < 0x80 := by obtain rfl | rfl := hcmd <;> decide
  simp only [msgBody, List.forall_mem_cons]
  exact ⟨by decide, by decide, by decide, hmodel, hc, hpayload⟩

theorem framedBytes_append (bodies bodies' : List Bytes) :
    framedBytes (bodies ++ bodies') = framedBytes bodies ++ framedBytes bodies' := by
  simp only [framedBytes, List.map_append, List.flatten_append]

theorem framedBytes_singleton (body : Bytes) : framedBytes [body] = framedMsg body := List.append_nil _

theorem framedBytes_flatten (chunks : List (List Bytes)) :
    framedBytes chunks.flatten = (chunks.map framedBytes).flatten := by
  induction chunks with
  | nil => rfl
  | cons bodies chunks ih =>
    rw [List.flatten_cons, framedBytes_append, ih, List.map_cons, List.flatten_cons]

/-- The bodies of the messages that hold the page of page index `p`. -/
def DumpPage.bodies (order : Config.BitOrder) (key : Vector Byte 13) (cmd : Byte) (p : Nat) (x : DumpPage) :
    List Bytes :=
  x.before ++ [msgBody x.model cmd (pagePayload order key (BitVec.ofNat 16 p) x.data)]

/-- The bodies of the messages of a stream of successive pages. -/
def dumpBodies (order : Config.BitOrder) (key : Vector Byte 13) (cmd : Byte) (p : Nat) (xs : List DumpPage) :
    List Bytes :=
  ((xs.zipIdx p).map fun x => x.1.bodies order key cmd x.2).flatten

section Streams

variable (order : Config.BitOrder) (key : Vector Byte 13) (cmd : Byte)

theorem dumpBodies_cons (p : Nat) (x : DumpPage) (xs : List DumpPage) :
    dumpBodies order key cmd p (x :: xs) = x.bodies order key cmd p ++ dumpBodies order key cmd (p + 1) xs := rfl

theorem dumpStream_eq_framedBytes (p : Nat) (xs : List DumpPage) :
    dumpStream order key cmd p xs = framedBytes (dumpBodies order key cmd p xs) := by
  rw [dumpBodies, framedBytes_flatten, dumpStream, List.map_map]
  refine congrArg List.flatten (List.map_congr_left fun x _ => ?_)
  rw [Function.comp_apply, DumpPage.bodies, framedBytes_append, framedBytes_singleton, framedMsg_msgBody]
  rfl

variable {order key cmd}

theorem dumpBodies_lt (hcmd : IsPageCmd cmd) {xs : List DumpPage} (hxs : ∀ x ∈ xs, x.sound) (p : Nat) :
    ∀ body ∈ dumpBodies order key cmd p xs, ∀ b ∈ body, b.toNat < 0x80 := by
  induction xs generalizing p with
  | nil => exact fun body h => absurd h List.not_mem_nil
  | cons x xs ih =>
    obtain ⟨⟨hbefore, hmodel, -⟩, hrest⟩ := List.forall_mem_cons.mp hxs
    rw [dumpBodies_cons, DumpPage.bodies, List.forall_mem_append, List.forall_mem_append]
    refine ⟨⟨fun body hbody => (hbefore body hbody).1, List.forall_mem_singleton.mpr ?_⟩, ih hrest (p + 1)⟩
    exact msgBody_lt hmodel hcmd (pagePayload_lt _ _ _ _)

end Streams

/-! ## The checks of a page -/

/-- The device address of page index `q` (R217). -/
def pageAddr (q : Nat) : Addr := BitVec.ofNat 24 (256 * q)

theorem pageAddr_toNat {q : Nat} (h : q < 2 ^ 16) : (pageAddr q).toNat = 256 * q :=
  Nat.mod_eq_of_lt (by omega)

theorem addrOfPidx_toNat (pidx : Half) : (addrOfPidx pidx).toNat = 256 * pidx.toNat := by
  rw [addrOfPidx, BitVec.toNat_append, BitVec.toNat_ofNat, Nat.zero_mod, Nat.or_zero, Nat.shiftLeft_eq]
  omega

theorem addrOfPidx_ofNat {q : Nat} (h : q < 2 ^ 16) : addrOfPidx (BitVec.ofNat 16 q) = pageAddr q := by
  refine BitVec.eq_of_toNat_eq ?_
  rw [addrOfPidx_toNat, pageAddr_toNat h, BitVec.toNat_ofNat, Nat.mod_eq_of_lt h]

/-- The family of a stream is the family of its first page (R221). -/
def State.putFamily (fam : Family) (s : State) : State := { s with dp := { s.dp with family := fam } }

section Checks

variable {s : State} {fam : Family}

theorem putFamily_self (h : s.dp.family = fam) : s.putFamily fam = s := by
  subst h
  rfl

theorem checkFamily_of_open (hfam : fam ≠ .none) (h : s.dp.family = .none ∨ s.dp.family = fam) :
    checkFamily fam s = .ok () (s.putFamily fam) := by
  obtain h | h := h
  · simp only [checkFamily, h]
    rfl
  · rw [putFamily_self h]
    cases fam with
    | none => exact absurd rfl hfam
    | write => simp only [checkFamily, h, if_true]
    | readback => simp only [checkFamily, h, if_true]

theorem checkFamily_of_other (hset : s.dp.family ≠ .none) (h : s.dp.family ≠ fam) :
    checkFamily fam s = .raised ⟨.formatError, .check .mixedFamilies⟩ s := by
  unfold checkFamily
  split
  next hnone => exact absurd hnone hset
  next hwrite => exact if_neg fun hfam => h (hwrite.trans hfam.symm)
  next hread => exact if_neg fun hfam => h (hread.trans hfam.symm)

theorem checkContiguous_of_follows {a : Addr} (h : ∀ l, s.dp.lastAddr = some l → a.toNat = l.toNat + 0x100) :
    checkContiguous a s = .ok () s := by
  unfold checkContiguous
  split
  · rfl
  next l hl => exact if_pos (h l hl)

theorem checkContiguous_of_gap {a l : Addr} (hl : s.dp.lastAddr = some l) (h : a.toNat ≠ l.toNat + 0x100) :
    checkContiguous a s = .raised ⟨.addressDiscontinuity, .address a⟩ s := by
  simp only [checkContiguous, hl]
  exact if_neg h

end Checks

/-! ## After any number of good pages -/

/-- The registers of `SYX2DUMP` after `n` pages of one family from page index `p` (R220, R221). -/
structure PagesRead (fam : Family) (p n : Nat) (s : State) : Prop where
  family : s.dp.family = if n = 0 then .none else fam
  dbase : s.dp.dbase = if n = 0 then none else some (pageAddr p)
  lastAddr : s.dp.lastAddr = if n = 0 then none else some (pageAddr (p + n - 1))

section Loop

variable {order : Config.BitOrder} {key : Vector Byte 13} {cmd : Byte} {p n : Nat} {s : State} {fam : Family}

theorem PagesRead.family_open (h : PagesRead fam p n s) : s.dp.family = .none ∨ s.dp.family = fam := by
  rw [h.family]
  split
  · exact .inl rfl
  · exact .inr rfl

/-- The address of the next page follows that of the last (R222). -/
theorem PagesRead.follows (h : PagesRead fam p n s) (hp : p + n < 2 ^ 16) (l : Addr) (hl : s.dp.lastAddr = some l) :
    (pageAddr (p + n)).toNat = l.toNat + 0x100 := by
  rw [h.lastAddr] at hl
  split at hl
  · cases hl
  · cases hl
    rw [pageAddr_toNat hp, pageAddr_toNat (by omega)]
    omega

/-- The registers after one more page. -/
theorem PagesRead.accept {t : State} (h : PagesRead fam p n s) (hfam : t.dp.family = fam)
    (hdbase : t.dp.dbase = s.dp.dbase) : PagesRead fam p (n + 1) (t.acceptPage (pageAddr (p + n))) where
  family := hfam
  dbase := by
    rw [State.acceptPage_dbase, hdbase, h.dbase, if_neg n.succ_ne_zero]
    split
    next hn => rw [hn]; rfl
    next => rfl
  lastAddr := rfl

/-- A page message of an open family goes on to the payload check (R226). -/
theorem dumpPage_of_family {c : Byte} (hc : IsPageCmd c) (hopen : s.dp.family = .none ∨ s.dp.family = cmdFamily c)
    (model : Byte) (payload : Bytes) :
    dumpPage key (messageBytes model c payload) s =
      (pagedecRun key payload (s.putFamily (cmdFamily c))).andThen fun plain s =>
        (checkContiguous (addrOfPidx (pidxOf plain)) s).andThen fun _ s =>
          .ok (plain.drop 3) (s.acceptPage (addrOfPidx (pidxOf plain))) := by
  rw [dumpPage, familyOf_messageBytes hc, checkFamily_of_open (cmdFamily_ne_none c) hopen, payloadOf_messageBytes]
  rfl

/-- The next page of the family is accepted (R220). -/
theorem dumpPage_next (hcmd : IsPageCmd cmd) (hs : PagesRead (cmdFamily cmd) p n s) (hp : p + n < 2 ^ 16)
    (horder : s.cfg.ckBitOrder = order) {data : Bytes} (hdata : data.length = 256) (model : Byte) :
    ∃ t, dumpPage key (messageBytes model cmd (pagePayload order key (BitVec.ofNat 16 (p + n)) data)) s = .ok data t ∧
      PagesRead (cmdFamily cmd) p (n + 1) t := by
  subst horder
  obtain ⟨u, hdec, hfamily, hdbase, hlast⟩ : ∃ u,
      pagedecRun key (pagePayload s.cfg.ckBitOrder key (BitVec.ofNat 16 (p + n)) data) (s.putFamily (cmdFamily cmd)) =
        .ok (pagePlain s.cfg.ckBitOrder (BitVec.ofNat 16 (p + n)) data) u ∧
      u.dp.family = cmdFamily cmd ∧ u.dp.dbase = s.dp.dbase ∧ u.dp.lastAddr = s.dp.lastAddr :=
    ⟨_, pagedecRun_pagePayload key _ hdata (s.putFamily (cmdFamily cmd)), rfl, rfl, rfl⟩
  have hfollows : ∀ l, u.dp.lastAddr = some l → (pageAddr (p + n)).toNat = l.toNat + 0x100 := hlast ▸ hs.follows hp
  refine ⟨_, ?_, hs.accept hfamily hdbase⟩
  rw [dumpPage_of_family hcmd hs.family_open, hdec, Run.andThen_ok, pidxOf_pagePlain, addrOfPidx_ofNat hp,
    checkContiguous_of_follows hfollows]
  rfl

/-- Skipped messages change nothing (R214). -/
theorem dumpMsgs_skipped {bodies : List Bytes} (h : ∀ body ∈ bodies, skipped body) (rest : List Bytes) (s : State) :
    dumpMsgs key (bodies.map framedMsg ++ rest) s = dumpMsgs key rest s := by
  induction bodies with
  | nil => rfl
  | cons body bodies ih =>
    obtain ⟨hbody, hbodies⟩ := List.forall_mem_cons.mp h
    exact (if_pos (familyOf_of_skipped hbody)).trans (ih hbodies)

theorem dumpMsgs_page {c : Byte} (hc : IsPageCmd c) (model : Byte) (payload : Bytes) (rest : List Bytes) (s : State) :
    dumpMsgs key (messageBytes model c payload :: rest) s =
      (dumpPage key (messageBytes model c payload) s).andThen fun d s =>
        (dumpMsgs key rest s).andThen fun ds s => .ok (d ++ ds) s :=
  if_neg (by rw [familyOf_messageBytes hc]; exact cmdFamily_ne_none c)

/-- Good pages of one family are read one after another, with the messages before them skipped (R220). -/
theorem dumpMsgs_pages (hcmd : IsPageCmd cmd) {xs : List DumpPage} (hxs : ∀ x ∈ xs, x.sound)
    (hs : PagesRead (cmdFamily cmd) p n s) (hp : p + n + xs.length ≤ 2 ^ 16) (horder : s.cfg.ckBitOrder = order) :
    ∃ t, PagesRead (cmdFamily cmd) p (n + xs.length) t ∧ Quiet s t ∧ ∀ rest,
      dumpMsgs key ((dumpBodies order key cmd (p + n) xs).map framedMsg ++ rest) s =
        (dumpMsgs key rest t).andThen fun ds u => .ok ((xs.map (·.data)).flatten ++ ds) u := by
  induction xs generalizing n s with
  | nil =>
    refine ⟨s, hs, Quiet.refl s, fun rest => ?_⟩
    cases h : dumpMsgs key rest s with
    | ok ds u => exact h
    | raised e u => exact h
  | cons x xs ih =>
    obtain ⟨⟨hbefore, -, hdata⟩, hrest⟩ := List.forall_mem_cons.mp hxs
    rw [List.length_cons] at hp
    obtain ⟨t, hpage, ht⟩ := dumpPage_next (key := key) hcmd hs (by omega) horder hdata x.model
    have hquiet : Quiet s t := by
      have h := dumpPage_quiet key (messageBytes x.model cmd (pagePayload order key (BitVec.ofNat 16 (p + n)) x.data)) s
      rwa [hpage] at h
    have horder' : t.cfg.ckBitOrder = order := by rw [hquiet.ported.cfg, horder]
    obtain ⟨u, hu, hquiet', hmsgs⟩ := ih hrest ht (by omega) horder'
    refine ⟨u, by rwa [List.length_cons, ← Nat.add_assoc, Nat.add_right_comm], hquiet.trans hquiet', fun rest => ?_⟩
    rw [dumpBodies_cons, DumpPage.bodies, List.map_append, List.map_append, List.append_assoc, List.append_assoc,
      dumpMsgs_skipped hbefore, List.map_singleton, List.singleton_append, framedMsg_msgBody, dumpMsgs_page hcmd, hpage,
      Run.andThen_ok, Nat.add_assoc, hmsgs]
    cases dumpMsgs key rest u with
    | ok ds v => simp
    | raised e v => rfl

end Loop

/-! ## The whole operation -/

section Whole

variable {s : State} {key : Vector Byte 13} {cmd : Byte} {p : Nat}

/-- An operation that touched the datapath only, and answered. -/
theorem finish_ok_eq_endedOk {f : ParamRegs → ParamRegs} {t : State} (h : Confined (s.latch f).begin t) (o : Output) :
    finish (.ok o t) = s.endedOk (f s.par) { t.dp with seq := .done } o := by
  have houtside := h.outside
  generalize t.dp = dp at houtside
  subst houtside
  rfl

/-- An operation that touched the datapath only, and raised. -/
theorem finish_raised_eq_endedErr {f : ParamRegs → ParamRegs} {t : State} (h : Confined (s.latch f).begin t) (e : Err) :
    finish (.raised e t) = s.endedErr (f s.par) { t.dp with seq := .failed } e := by
  have houtside := h.outside
  generalize t.dp = dp at houtside
  subst houtside
  rfl

/-- `SYX2DUMP` of good pages of one family and of what follows them: the loop goes on with what follows, from a state
that has read the pages and emitted no event. -/
theorem syx2dumpRun_pages (hcmd : IsPageCmd cmd) {xs : List DumpPage} (hxs : ∀ x ∈ xs, x.sound)
    {rest : List Bytes} (hrest : ∀ body ∈ rest, ∀ b ∈ body, b.toNat < 0x80) (hp : p + xs.length ≤ 2 ^ 16)
    {f : ParamRegs → ParamRegs} :
    ∃ t, PagesRead (cmdFamily cmd) p xs.length t ∧ Confined (s.latch f).begin t ∧ t.dp.events = [] ∧
      syx2dumpRun key (dumpStream s.cfg.ckBitOrder key cmd p xs ++ framedBytes rest) (s.latch f).begin =
        ((dumpMsgs key (rest.map framedMsg) t).andThen fun ds u => .ok ((xs.map (·.data)).flatten ++ ds) u).andThen
          dumpFinish := by
  have hbodies : ∀ body ∈ dumpBodies s.cfg.ckBitOrder key cmd p xs ++ rest, ∀ b ∈ body, b.toNat < 0x80 :=
    List.forall_mem_append.mpr ⟨dumpBodies_lt hcmd hxs p, hrest⟩
  have hframe := frameIn_framedBytes hbodies (s.latch f).begin
  have hconfined := frameIn_confined (framedBytes (dumpBodies s.cfg.ckBitOrder key cmd p xs ++ rest)) (s.latch f).begin
  rw [hframe] at hconfined
  obtain ⟨t, ht, hquiet, hmsgs⟩ := dumpMsgs_pages (key := key) (n := 0) hcmd hxs
    (s := (s.latch f).begin.framedAll
      ((dumpBodies s.cfg.ckBitOrder key cmd p xs ++ rest).map framedMsg)) ⟨rfl, rfl, rfl⟩ (by omega) rfl
  rw [Nat.zero_add] at ht
  refine ⟨t, ht, hconfined.trans hquiet.confined, hquiet.events, ?_⟩
  rw [dumpStream_eq_framedBytes, ← framedBytes_append, syx2dumpRun, hframe, Run.andThen_ok]
  exact congrArg (Run.andThen · dumpFinish)
    ((congrArg (dumpMsgs key · _) List.map_append).trans (hmsgs (rest.map framedMsg)))

end Whole

end Sys2Proof.Machine
end

section
/-! The write cipher undone (spec/44_format_converter.md R224, R225), and how `SYX2DUMP` ends: the dump of successive
pages (R220), and its errors in the order of R226. -/

namespace Sys2Proof.Machine

/-! ## Byte by byte -/

theorem ext_byteAt {xs ys : Bytes} (hlen : xs.length = ys.length)
    (h : ∀ k, k < xs.length → byteAt xs k = byteAt ys k) : xs = ys := by
  refine List.ext_getElem hlen fun k hx hy => ?_
  have hk := h k hx
  rwa [byteAt, byteAt, List.getD_eq_getElem _ _ hx, List.getD_eq_getElem _ _ hy] at hk

theorem byteAt_append_left {xs : Bytes} {k : Nat} (hk : k < xs.length) (ys : Bytes) :
    byteAt (xs ++ ys) k = byteAt xs k := by
  simp only [byteAt, List.getD_eq_getElem?_getD, List.getElem?_append_left hk]

theorem byteAt_append_of_le {xs : Bytes} {k : Nat} (hk : xs.length ≤ k) (ys : Bytes) :
    byteAt (xs ++ ys) k = byteAt ys (k - xs.length) := by
  simp only [byteAt, List.getD_eq_getElem?_getD, List.getElem?_append_right hk]

theorem byteAt_zipWith_xor {xs ys : Bytes} {k : Nat} (hx : k < xs.length) (hy : k < ys.length) :
    byteAt (List.zipWith (· ^^^ ·) xs ys) k = byteAt xs k ^^^ byteAt ys k := by
  have hz : k < (List.zipWith (· ^^^ ·) xs ys).length := by rw [List.length_zipWith]; omega
  simp only [byteAt, List.getD_eq_getElem _ _ hz, List.getD_eq_getElem _ _ hx, List.getD_eq_getElem _ _ hy,
    List.getElem_zipWith]

theorem byteAt_replicate_zero (n k : Nat) : byteAt (List.replicate n 0) k = 0 := by
  rw [byteAt, List.getD_eq_getElem?_getD, List.getElem?_replicate]
  split <;> rfl

/-! ## The keystream of a sector -/

theorem keystream_length (w : Half) (n : Nat) : (keystream w n).1.length = 2 * n := by
  induction n generalizing w with
  | zero => rfl
  | succ n ih => simp only [keystream, strictly_eq, List.length_cons, ih, Nat.mul_succ]

theorem byteAt_keystream (w : Half) {n i : Nat} (hi : i < 2 * n) : byteAt (keystream w n).1 i = wkeyByte w i := by
  induction n generalizing w i with
  | zero => omega
  | succ n ih =>
    rw [keystream, strictly_eq]
    match i with
    | 0 | 1 => rfl
    | i + 2 => exact (ih (wstep w) (by omega)).trans (wkeyByte_wstep w i)

/-- The key byte of a device address: its place in the keystream of its sector (R147, R224). -/
def addrKey (seedOf : SeedOf) (a : Nat) : Byte := wkeyByte (sectorSeed seedOf (a / 4096 * 4096)) (a % 4096)

/-- What `WCIPHER` gives for zeros is the keystream (R146). -/
theorem byteAt_wcipher_zeros (seed : Half) {k : Nat} (hk : k < 4096) :
    byteAt (wcipher seed (List.replicate 4096 0)) k = wkeyByte (wseed seed) k := by
  rw [wcipher, byteAt_wcipherFrom _ (by rw [List.length_replicate]) (by rwa [List.length_replicate]),
    byteAt_replicate_zero]
  exact BitVec.zero_xor

theorem addrKey_eq_wcipher (seedOf : SeedOf) (a : Nat) :
    addrKey seedOf a = byteAt (wcipher (seedOf.at (BitVec.ofNat 24 (a / 4096 * 4096))) (List.replicate 4096 0))
      (a % 4096) :=
  (byteAt_wcipher_zeros _ (Nat.mod_lt _ (by decide))).symm

/-- The data of a sector stand under its keystream from their place in it on. -/
theorem byteAt_undoneSector (seedOf : SeedOf) (a : Nat) {d : Bytes} {k : Nat} (hk : k < d.length)
    (hsector : a % 4096 + k < 4096) :
    byteAt (List.zipWith (· ^^^ ·) (d.take (4096 - a % 4096))
      ((keystream (sectorSeed seedOf (a - a % 4096)) sectorPairs).1.drop (a % 4096))) k =
      byteAt d k ^^^ addrKey seedOf (a + k) := by
  have hsame : (a + k) / 4096 * 4096 = a - a % 4096 := by omega
  have hplace : (a + k) % 4096 = a % 4096 + k := by omega
  have hkey : k < ((keystream (sectorSeed seedOf (a - a % 4096)) sectorPairs).1.drop (a % 4096)).length := by
    rw [List.length_drop, keystream_length, sectorPairs]
    omega
  have htake : k < (d.take (4096 - a % 4096)).length := by
    rw [List.length_take]
    omega
  rw [byteAt_zipWith_xor htake hkey, byteAt_take (by omega), byteAt_drop,
    byteAt_keystream _ (by rw [sectorPairs]; omega), addrKey, hsame, hplace]

theorem undoneSector_length (seedOf : SeedOf) (a : Nat) (d : Bytes) :
    (List.zipWith (· ^^^ ·) (d.take (4096 - a % 4096))
      ((keystream (sectorSeed seedOf (a - a % 4096)) sectorPairs).1.drop (a % 4096))).length =
      min (4096 - a % 4096) d.length := by
  rw [List.length_zipWith, List.length_take, List.length_drop, keystream_length, sectorPairs]
  omega

/-- Over enough sectors, every byte stands under the key byte of its device address (R224). -/
theorem wundoFrom_spec (seedOf : SeedOf) {n a : Nat} {d : Bytes} (hd : a % 4096 + d.length ≤ 4096 * n) (w : Half) :
    (wundoFrom seedOf n a d w).1.length = d.length ∧
      ∀ k, k < d.length → byteAt (wundoFrom seedOf n a d w).1 k = byteAt d k ^^^ addrKey seedOf (a + k) := by
  induction n generalizing a d w with
  | zero => exact ⟨by rw [wundoFrom, List.length_nil]; omega, fun k hk => by omega⟩
  | succ n ih =>
    have hrest : (a + (4096 - a % 4096)) % 4096 + (d.drop (4096 - a % 4096)).length ≤ 4096 * n := by
      rw [List.length_drop]
      omega
    obtain ⟨hlen, hbytes⟩ := ih hrest (keystream (sectorSeed seedOf (a - a % 4096)) sectorPairs).2
    have hfirst := undoneSector_length seedOf a d
    refine ⟨?_, fun k hk => ?_⟩
    · rw [wundoFrom, List.length_append, hlen, hfirst, List.length_drop]
      omega
    · by_cases hk' : a % 4096 + k < 4096
      · exact (byteAt_append_left (by rw [hfirst]; omega) _).trans (byteAt_undoneSector seedOf a hk hk')
      · have hlater := hbytes (k - (4096 - a % 4096)) (by rw [List.length_drop]; omega)
        rw [byteAt_drop, show 4096 - a % 4096 + (k - (4096 - a % 4096)) = k by omega,
          show a + (4096 - a % 4096) + (k - (4096 - a % 4096)) = a + k by omega] at hlater
        refine (byteAt_append_of_le (by rw [hfirst]; omega) _).trans ?_
        rw [hfirst, Nat.min_eq_left (by omega)]
        exact hlater

/-- The data from device address `a` with the write cipher undone (R224). -/
def undone (seedOf : SeedOf) (a : Nat) (d : Bytes) : Bytes := (wundoFrom seedOf (sectorCount a d.length) a d 0).1

theorem le_sectorCount (a len : Nat) (h : len ≠ 0) : a % 4096 + len ≤ 4096 * sectorCount a len := by
  rw [sectorCount, if_neg h]
  omega

theorem undone_length (seedOf : SeedOf) (a : Nat) (d : Bytes) : (undone seedOf a d).length = d.length := by
  by_cases h : d.length = 0
  · obtain rfl := List.eq_nil_of_length_eq_zero h
    rfl
  · exact (wundoFrom_spec seedOf (le_sectorCount a _ h) 0).1

theorem byteAt_undone (seedOf : SeedOf) (a : Nat) {d : Bytes} {k : Nat} (hk : k < d.length) :
    byteAt (undone seedOf a d) k = byteAt d k ^^^ addrKey seedOf (a + k) :=
  (wundoFrom_spec seedOf (le_sectorCount a _ (by omega)) 0).2 k hk

/-! ## The dump of successive pages -/

/-- What `SYX2DUMP` returns of the data of a family's pages (R225). -/
def dumpOut (seedOf : SeedOf) (cmd : Byte) (a : Nat) (d : Bytes) : Bytes := if cmd = 0x74 then d else undone seedOf a d

section Ends

variable {s : State} {key : Vector Byte 13} {cmd : Byte} {p : Nat}

/-- The end of `SYX2DUMP` after a page (R220, R224, R225). -/
theorem dumpFinish_of_page {a : Addr} (hfamily : s.dp.family = cmdFamily cmd) (hdbase : s.dp.dbase = some a)
    (d : Bytes) :
    ∃ w, dumpFinish d s = .ok ⟨dumpOut s.cfg.seedOf cmd a.toNat d, some a, none, none⟩ (s.putWreg w) := by
  by_cases hcmd : cmd = 0x74
  · have hread : s.dp.family = .readback := hfamily.trans (if_pos hcmd)
    refine ⟨s.dp.wreg, ?_⟩
    simp only [dumpFinish, hread, hdbase, dumpOut, if_pos hcmd]
    rfl
  · have hwrite : s.dp.family = .write := hfamily.trans (if_neg hcmd)
    refine ⟨(wundoFrom s.cfg.seedOf (sectorCount a.toNat d.length) a.toNat d s.dp.wreg).2, ?_⟩
    simp only [dumpFinish, hwrite, hdbase, dumpOut, if_neg hcmd, undone, wundoFrom_fst _ _ _ _ 0 s.dp.wreg]
    rfl

/-- What `SYX2DUMP` leaves in the registers and returns, after pages of one family from page index `p`. -/
structure DumpsPages (s : State) (cmd : Byte) (p n : Nat) (d : Bytes) (dp : Datapath) : Prop where
  exec : exec .syx2dump s = .next (s.endedOk { s.par with opc := some 0x0F } dp
    ⟨dumpOut s.cfg.seedOf cmd (256 * p) d, some (pageAddr p), none, none⟩)
  seq : dp.seq = .done
  events : dp.events = []
  family : dp.family = cmdFamily cmd
  dbase : dp.dbase = some (pageAddr p)
  lastAddr : dp.lastAddr = some (pageAddr (p + n - 1))

/-- `SYX2DUMP` of successive pages of one family, with skipped messages around them. -/
theorem exec_syx2dump_pages (hkey : s.cfg.transportKey = some key) (hcmd : IsPageCmd cmd) {xs : List DumpPage}
    (hsome : xs ≠ []) (hxs : ∀ x ∈ xs, x.sound) {after : List Bytes} (hafter : ∀ body ∈ after, skipped body)
    (hp : p + xs.length ≤ 2 ^ 16)
    (hin : s.inBuf = dumpStream s.cfg.ckBitOrder key cmd p xs ++ framedBytes after) :
    ∃ dp, DumpsPages s cmd p xs.length (xs.map (·.data)).flatten dp := by
  obtain ⟨t, ht, hconfined, hevents, hrun⟩ := syx2dumpRun_pages (s := s) (key := key) hcmd hxs
    (fun body hbody => (hafter body hbody).1) hp (f := latched .syx2dump)
  have hlen : xs.length ≠ 0 := fun h => hsome (List.eq_nil_of_length_eq_zero h)
  have hdbase := ht.dbase.trans (if_neg hlen)
  obtain ⟨w, hfinish⟩ := dumpFinish_of_page (ht.family.trans (if_neg hlen)) hdbase (xs.map (·.data)).flatten
  have hloop : dumpMsgs key (after.map framedMsg) t = .ok [] t := by
    have h := dumpMsgs_skipped (key := key) hafter [] t
    rwa [List.append_nil] at h
  rw [hloop, Run.andThen_ok, Run.andThen_ok, List.append_nil, hfinish] at hrun
  have hpos : 0 < xs.length := Nat.pos_of_ne_zero hlen
  have hcfg : t.cfg = s.cfg := hconfined.held.cfg
  rw [pageAddr_toNat (by omega), hcfg] at hrun
  refine ⟨{ (t.putWreg w).dp with seq := .done }, ?_, rfl, hevents, ht.family.trans (if_neg hlen), hdbase,
    ht.lastAddr.trans (if_neg hlen)⟩
  rw [exec_syx2dump hkey, hin, hrun]
  exact congrArg Host.Outcome.next (finish_ok_eq_endedOk (hconfined.trans (Quiet.putWreg w t).confined) _)

end Ends

theorem dumpOut_write (seedOf : SeedOf) (a : Nat) (d : Bytes) : dumpOut seedOf 0x34 a d = undone seedOf a d := rfl

theorem flatten_data_length {xs : List DumpPage} (h : ∀ x ∈ xs, x.data.length = 256) :
    (xs.map (·.data)).flatten.length = 256 * xs.length := by
  induction xs with
  | nil => rfl
  | cons x xs ih =>
    obtain ⟨hx, hxs⟩ := List.forall_mem_cons.mp h
    rw [List.map_cons, List.flatten_cons, List.length_append, hx, ih hxs, List.length_cons]
    omega

/-- Settles O32: the loop reads the pages, and the cipher is undone byte by byte. -/
theorem syx2dumpOfPages : Obligations.Syx2dumpOfPages := by
  intro s key cmd p xs after hkey hcmd hsome hxs hafter hp hin
  obtain ⟨dp, h⟩ := exec_syx2dump_pages hkey hcmd hsome hxs hafter hp hin
  have hlen := flatten_data_length fun x hx => (hxs x hx).2.2
  refine ⟨dp, _, h.exec, h.seq, h.events, h.family, h.dbase, h.lastAddr, fun hread => if_pos hread, fun hwrite => ?_⟩
  subst hwrite
  rw [dumpOut_write, undone_length, ← hlen]
  refine ⟨rfl, fun k hk => ?_⟩
  rw [byteAt_undone s.cfg.seedOf (256 * p) hk, addrKey_eq_wcipher]

/-! ## The first bad page -/

/-- `SYX2DUMP` ends with an error of this kind, and without an event. -/
def DumpFails (s : State) (k : ErrKind) : Prop :=
  ∃ dp info, exec .syx2dump s = .next (s.endedErr { s.par with opc := some 0x0F } dp ⟨k, info⟩) ∧
    dp.seq = .failed ∧ dp.events = []

section Errors

variable {s : State} {key : Vector Byte 13} {cmd c : Byte} {p n : Nat} {payload : Bytes}

theorem dumpFails_of_raised (hkey : s.cfg.transportKey = some key) {u : State} {k : ErrKind} {info : Info}
    (hrun : syx2dumpRun key s.inBuf (s.latch (latched .syx2dump)).begin = .raised ⟨k, info⟩ u)
    (hevents : u.dp.events = []) : DumpFails s k := by
  have hconfined := syx2dumpRun_confined key s.inBuf (s.latch (latched .syx2dump)).begin
  rw [hrun] at hconfined
  refine ⟨{ u.dp with seq := .failed }, info, ?_, rfl, hevents⟩
  rw [exec_syx2dump hkey, hrun]
  exact congrArg Host.Outcome.next (finish_raised_eq_endedErr hconfined _)

/-- A page is refused with an error of this kind. -/
def PageFails (key : Vector Byte 13) (m : Bytes) (s : State) (k : ErrKind) : Prop :=
  ∃ info u, dumpPage key m s = .raised ⟨k, info⟩ u

/-- A page of the other family (R221). -/
theorem pageFails_of_family (hs : PagesRead (cmdFamily cmd) p n s) (hn : n ≠ 0) (hcmd : IsPageCmd cmd)
    (hc : IsPageCmd c) (hother : c ≠ cmd) (model : Byte) :
    PageFails key (messageBytes model c payload) s .formatError := by
  have hfamily : s.dp.family = cmdFamily cmd := hs.family.trans (if_neg hn)
  have hset : s.dp.family ≠ .none := hfamily ▸ cmdFamily_ne_none cmd
  have hne : s.dp.family ≠ cmdFamily c := hfamily ▸ (cmdFamily_ne hc hcmd hother).symm
  refine ⟨.check .mixedFamilies, s, ?_⟩
  rw [dumpPage, familyOf_messageBytes hc, checkFamily_of_other hset hne]
  rfl

/-- The first page, or a page of the family of the pages before it. -/
theorem PagesRead.family_open_of (hs : PagesRead (cmdFamily cmd) p n s) (h : n = 0 ∨ c = cmd) :
    s.dp.family = .none ∨ s.dp.family = cmdFamily c := by
  obtain hn | rfl := h
  · exact .inl (hs.family.trans (if_pos hn))
  · exact hs.family_open

/-- A payload of a wrong length (R215, R216). -/
theorem pageFails_of_length (hopen : s.dp.family = .none ∨ s.dp.family = cmdFamily c) (hc : IsPageCmd c)
    (hlen : payload.length ≠ 296) (model : Byte) : PageFails key (messageBytes model c payload) s .formatError := by
  refine ⟨.check .pagePayloadLength, s.putFamily (cmdFamily c), ?_⟩
  rw [dumpPage_of_family hc hopen, pagedecRun_of_otherLength hlen]
  rfl

/-- A wrong checksum (R216). -/
theorem pageFails_of_checksum (hopen : s.dp.family = .none ∨ s.dp.family = cmdFamily c) (hc : IsPageCmd c)
    (hlen : payload.length = 296)
    (hck : ckPage s.cfg.ckBitOrder ((plainOf key payload).drop 3) ≠ byteAt (plainOf key payload) 2) (model : Byte) :
    PageFails key (messageBytes model c payload) s .checksumMismatch := by
  refine ⟨.page (pidxOf (plainOf key payload)), (s.putFamily (cmdFamily c)).readPage key payload, ?_⟩
  rw [dumpPage_of_family hc hopen, pagedecRun_of_mismatch (s := s.putFamily (cmdFamily c)) hlen hck]
  rfl

/-- A page that does not follow the one before it (R222). -/
theorem pageFails_of_gap (hs : PagesRead (cmdFamily cmd) p n s) (hn : n ≠ 0) (hp : p + n ≤ 2 ^ 16)
    (hopen : s.dp.family = .none ∨ s.dp.family = cmdFamily c) (hc : IsPageCmd c) (hlen : payload.length = 296)
    (hck : ckPage s.cfg.ckBitOrder ((plainOf key payload).drop 3) = byteAt (plainOf key payload) 2)
    (hgap : (pidxOf (plainOf key payload)).toNat ≠ p + n) (model : Byte) :
    PageFails key (messageBytes model c payload) s .addressDiscontinuity := by
  have hlast : ((s.putFamily (cmdFamily c)).readPage key payload).dp.lastAddr = some (pageAddr (p + n - 1)) :=
    hs.lastAddr.trans (if_neg hn)
  have hne : (addrOfPidx (pidxOf (plainOf key payload))).toNat ≠ (pageAddr (p + n - 1)).toNat + 0x100 := by
    rw [addrOfPidx_toNat, pageAddr_toNat (by omega)]
    omega
  refine ⟨.address (addrOfPidx (pidxOf (plainOf key payload))), (s.putFamily (cmdFamily c)).readPage key payload, ?_⟩
  rw [dumpPage_of_family hc hopen, pagedecRun_of_checked (s := s.putFamily (cmdFamily c)) hlen hck, Run.andThen_ok,
    checkContiguous_of_gap hlast hne]
  rfl

/-- The first bad page ends the operation, whatever follows it (R226, R314). -/
theorem dumpFails_of_page (hkey : s.cfg.transportKey = some key) (hcmd : IsPageCmd cmd) (hc : IsPageCmd c)
    {xs : List DumpPage} (hxs : ∀ x ∈ xs, x.sound) {before later : List Bytes}
    (hbefore : ∀ body ∈ before, skipped body) (hlater : ∀ b ∈ later.flatten, b.toNat < 0x80)
    (hp : p + xs.length ≤ 2 ^ 16) {model : Byte} (hmodel : model.toNat < 0x80)
    (hpayload : ∀ b ∈ payload, b.toNat < 0x80)
    (hin : s.inBuf = dumpStream s.cfg.ckBitOrder key cmd p xs ++ framedBytes before ++ messageBytes model c payload ++
      framedBytes later) {k : ErrKind}
    (hbad : ∀ t : State, t.cfg = s.cfg → PagesRead (cmdFamily cmd) p xs.length t →
      PageFails key (messageBytes model c payload) t k) : DumpFails s k := by
  have hrest : ∀ body ∈ before ++ msgBody model c payload :: later, ∀ b ∈ body, b.toNat < 0x80 :=
    List.forall_mem_append.mpr ⟨fun body hbody => (hbefore body hbody).1, List.forall_mem_cons.mpr
      ⟨msgBody_lt hmodel hc hpayload, fun body hbody b hb => hlater b (List.mem_flatten_of_mem hbody hb)⟩⟩
  have hstream : framedBytes (before ++ msgBody model c payload :: later) =
      framedBytes before ++ messageBytes model c payload ++ framedBytes later := by
    rw [framedBytes_append, List.append_assoc]
    rfl
  obtain ⟨t, ht, hconfined, hevents, hrun⟩ := syx2dumpRun_pages (s := s) (key := key) hcmd hxs hrest hp
    (f := latched .syx2dump)
  obtain ⟨info, u, hpage⟩ := hbad t hconfined.held.cfg ht
  have hquiet : Quiet t u := by
    have h := dumpPage_quiet key (messageBytes model c payload) t
    rwa [hpage] at h
  rw [hstream, ← List.append_assoc, ← List.append_assoc, ← hin, List.map_append, dumpMsgs_skipped hbefore,
    List.map_cons, framedMsg_msgBody, dumpMsgs_page hc, hpage] at hrun
  exact dumpFails_of_raised hkey hrun (hquiet.events.trans hevents)

/-- A stream of skipped messages only holds no page (R223). -/
theorem dumpFails_of_noPage (hkey : s.cfg.transportKey = some key) {bodies : List Bytes}
    (h : ∀ body ∈ bodies, skipped body) (hin : s.inBuf = framedBytes bodies) : DumpFails s .formatError := by
  obtain ⟨t, ht, -, hevents, hrun⟩ := syx2dumpRun_pages (s := s) (key := key) (cmd := 0x74) (p := 0) (.inl rfl)
    (xs := []) (fun x hx => absurd hx List.not_mem_nil) (fun body hbody => (h body hbody).1) (by decide)
    (f := latched .syx2dump)
  have hloop : dumpMsgs key (bodies.map framedMsg) t = .ok [] t := by
    have h := dumpMsgs_skipped (key := key) h [] t
    rwa [List.append_nil] at h
  have hfinish : dumpFinish [] t = .raised ⟨.formatError, .check .noFirmwarePage⟩ t := by
    have hfamily : t.dp.family = .none := ht.family
    simp only [dumpFinish, hfamily]
  rw [hloop] at hrun
  refine dumpFails_of_raised hkey (info := .check .noFirmwarePage) ?_ hevents
  rw [hin]
  exact hrun.trans hfinish

end Errors

/-- Settles O33: the first bad page fails the first check of R226 that it does not pass. -/
theorem syx2dumpErrors : Obligations.Syx2dumpErrors := by
  intro s key cmd p xs before hkey hcmd hxs hbefore hp
  refine ⟨fun hnone hin => ?_, fun model c payload later hmodel hc hpayload hlater hin => ?_⟩
  · subst hnone
    exact dumpFails_of_noPage hkey hbefore hin
  have hfails := fun k => dumpFails_of_page (k := k) hkey hcmd hc hxs hbefore hlater hp hmodel hpayload hin
  refine ⟨fun hsome hother => hfails _ fun t _ ht => ?_, fun hfamily => ?_⟩
  · exact pageFails_of_family ht (fun h => hsome (List.eq_nil_of_length_eq_zero h)) hcmd hc hother model
  have hopen : ∀ t : State, PagesRead (cmdFamily cmd) p xs.length t →
      t.dp.family = .none ∨ t.dp.family = cmdFamily c := fun t ht =>
    ht.family_open_of (hfamily.imp_left fun h => by rw [h]; rfl)
  refine ⟨fun hlen => hfails _ fun t _ ht => pageFails_of_length (hopen t ht) hc hlen model,
    fun hlen hck => hfails _ fun t hcfg ht => ?_, fun hlen hck hsome hgap => hfails _ fun t hcfg ht => ?_⟩
  · exact pageFails_of_checksum (hopen t ht) hc hlen (by rw [hcfg]; exact hck.symm) model
  · exact pageFails_of_gap ht (fun h => hsome (List.eq_nil_of_length_eq_zero h)) hp (hopen t ht) hc hlen
      (by rw [hcfg]; exact hck.symm) hgap model

end Sys2Proof.Machine
end

section
/-! `DUMP2SYX` (spec/44_format_converter.md R230, R231): its stream as a stream of pages of the ciphered sectors, its
checks, and the seeds of spec/41_stream_cipher.md R147. -/

namespace Sys2Proof.Machine

/-! ## The pages of a byte sequence -/

/-- The first `n` pages of a byte sequence, under one model byte. -/
def pagesOf (model : Byte) : Nat → Bytes → List DumpPage
  | 0, _ => []
  | n + 1, c => ⟨[], model, c.take 256⟩ :: pagesOf model n (c.drop 256)

theorem pagesOf_length (model : Byte) (n : Nat) (c : Bytes) : (pagesOf model n c).length = n := by
  induction n generalizing c with
  | zero => rfl
  | succ n ih => rw [pagesOf, List.length_cons, ih]

theorem pagesOf_append (model : Byte) {m : Nat} {c : Bytes} (hc : c.length = 256 * m) (n : Nat) (d : Bytes) :
    pagesOf model (m + n) (c ++ d) = pagesOf model m c ++ pagesOf model n d := by
  induction m generalizing c with
  | zero =>
    obtain rfl := List.eq_nil_of_length_eq_zero hc
    rw [Nat.zero_add]
    rfl
  | succ m ih =>
    have hpage : 256 ≤ c.length := by omega
    rw [Nat.succ_add, pagesOf, List.take_append_of_le_length hpage, List.drop_append_of_le_length hpage,
      ih (by rw [List.length_drop]; omega)]
    rfl

theorem pagesOf_sound {model : Byte} (hmodel : model.toNat < 0x80) {n : Nat} {c : Bytes} (hc : 256 * n ≤ c.length) :
    ∀ x ∈ pagesOf model n c, x.sound := by
  induction n generalizing c with
  | zero => exact fun x hx => absurd hx List.not_mem_nil
  | succ n ih =>
    refine List.forall_mem_cons.mpr ⟨⟨fun body hbody => absurd hbody List.not_mem_nil, hmodel, ?_⟩, ih ?_⟩
    · exact List.length_take_of_le (by omega)
    · rw [List.length_drop]
      omega

theorem pagesOf_data (model : Byte) {n : Nat} {c : Bytes} (hc : c.length = 256 * n) :
    ((pagesOf model n c).map (·.data)).flatten = c := by
  induction n generalizing c with
  | zero => exact (List.eq_nil_of_length_eq_zero hc).symm
  | succ n ih =>
    rw [pagesOf, List.map_cons, List.flatten_cons, ih (by rw [List.length_drop]; omega), List.take_append_drop]

/-! ## A stream of pages alone -/

theorem messageBytes_length (model cmd : Byte) (payload : Bytes) :
    (messageBytes model cmd payload).length = payload.length + 7 := by
  simp [messageBytes, Config.manuf]

section Streams

variable (order : Config.BitOrder) (key : Vector Byte 13) (cmd model : Byte)

theorem dumpStream_append (p : Nat) (xs ys : List DumpPage) :
    dumpStream order key cmd p (xs ++ ys) =
      dumpStream order key cmd p xs ++ dumpStream order key cmd (p + xs.length) ys := by
  rw [dumpStream, List.zipIdx_append, List.map_append, List.flatten_append]
  rfl

/-- The message of a page. -/
def pageMsg (p : Nat) (data : Bytes) : Bytes :=
  messageBytes model cmd (pagePayload order key (BitVec.ofNat 16 p) data)

theorem pageMsg_length (p : Nat) {data : Bytes} (h : data.length = 256) :
    (pageMsg order key cmd model p data).length = 303 := by
  rw [pageMsg, messageBytes_length, pagePayload_length _ _ _ h]
  rfl

/-- The header, the end byte and the payload of a page message (R80). -/
theorem pageMsg_fields (p : Nat) {data : Bytes} (h : data.length = 256) :
    (pageMsg order key cmd model p data).take 6 = [0xF0, 0x00, 0x20, 0x32, model, cmd] ∧
      byteAt (pageMsg order key cmd model p data) 302 = 0xF7 ∧
      ((pageMsg order key cmd model p data).drop 6).take 296 = pagePayload order key (BitVec.ofNat 16 p) data := by
  have hlen : (pagePayload order key (BitVec.ofNat 16 p) data).length = 296 := pagePayload_length _ _ _ h
  refine ⟨rfl, ?_, List.take_left' hlen⟩
  have hend : byteAt (pagePayload order key (BitVec.ofNat 16 p) data ++ [Config.eox]) 296 = 0xF7 := by
    rw [byteAt_append_of_le hlen.le, hlen]
    rfl
  exact hend

theorem dumpStream_pagesOf_succ (p n : Nat) (c : Bytes) :
    dumpStream order key cmd p (pagesOf model (n + 1) c) =
      pageMsg order key cmd model p (c.take 256) ++ dumpStream order key cmd (p + 1) (pagesOf model n (c.drop 256)) :=
  rfl

theorem dumpStream_pagesOf_length (p : Nat) {n : Nat} {c : Bytes} (hc : 256 * n ≤ c.length) :
    (dumpStream order key cmd p (pagesOf model n c)).length = 303 * n := by
  induction n generalizing p c with
  | zero => rfl
  | succ n ih =>
    rw [dumpStream_pagesOf_succ, List.length_append, pageMsg_length _ _ _ _ _ (List.length_take_of_le (by omega)),
      ih (p + 1) (by rw [List.length_drop]; omega)]
    omega

/-- Message `i` of a stream of pages. -/
theorem dumpStream_pagesOf_msg (p : Nat) {n i : Nat} {c : Bytes} (hc : 256 * n ≤ c.length) (hi : i < n) :
    ((dumpStream order key cmd p (pagesOf model n c)).drop (303 * i)).take 303 =
      pageMsg order key cmd model (p + i) ((c.drop (256 * i)).take 256) := by
  induction n generalizing p c i with
  | zero => omega
  | succ n ih =>
    have hlen := pageMsg_length order key cmd model p (data := c.take 256) (List.length_take_of_le (by omega))
    rw [dumpStream_pagesOf_succ]
    cases i with
    | zero => exact List.take_left' hlen
    | succ i =>
      rw [Nat.mul_succ, Nat.add_comm, ← List.drop_drop, List.drop_left' hlen,
        ih (p + 1) (by rw [List.length_drop]; omega) (Nat.lt_of_succ_lt_succ hi), List.drop_drop, Nat.mul_succ,
        Nat.add_comm 256, Nat.add_right_comm, Nat.add_assoc]

end Streams

/-! ## The ciphered sectors -/

/-- `n` sectors from device address `a`, each under `WCIPHER` with its own seed (R147, R230). -/
def ciphered (seedOf : SeedOf) : Nat → Nat → Bytes → Bytes
  | 0, _, _ => []
  | n + 1, a, d => wcipher (seedOf.at (BitVec.ofNat 24 a)) (d.take 4096) ++ ciphered seedOf n (a + 4096) (d.drop 4096)

theorem wcipher_length (seed : Half) {bs : Bytes} (heven : bs.length % 2 = 0) :
    (wcipher seed bs).length = bs.length := wcipherFrom_length (wseed seed) heven

section Ciphered

variable (seedOf : SeedOf) {n a : Nat} {d : Bytes}

theorem wcipher_sector_length (seed : Half) (hd : d.length = 4096 * (n + 1)) :
    (wcipher seed (d.take 4096)).length = 4096 := by
  have hlen : (d.take 4096).length = 4096 := List.length_take_of_le (by omega)
  rw [wcipher_length _ (by rw [hlen]), hlen]

theorem ciphered_length (hd : d.length = 4096 * n) : (ciphered seedOf n a d).length = 4096 * n := by
  induction n generalizing a d with
  | zero => rfl
  | succ n ih =>
    rw [ciphered, List.length_append, wcipher_sector_length _ hd, ih (by rw [List.length_drop]; omega)]
    omega

/-- Every byte stands under the key byte of its device address (R145, R147). -/
theorem byteAt_ciphered (ha : a % 4096 = 0) (hd : d.length = 4096 * n) {k : Nat} (hk : k < 4096 * n) :
    byteAt (ciphered seedOf n a d) k = byteAt d k ^^^ addrKey seedOf (a + k) := by
  induction n generalizing a d k with
  | zero => omega
  | succ n ih =>
    have hlen : (d.take 4096).length = 4096 := List.length_take_of_le (by omega)
    have hsector := wcipher_sector_length (seedOf.at (BitVec.ofNat 24 a)) hd
    rw [ciphered]
    by_cases hfirst : k < 4096
    · have hsame : (a + k) / 4096 * 4096 = a := by omega
      have hplace : (a + k) % 4096 = k := by omega
      rw [byteAt_append_left (by rwa [hsector]), wcipher, byteAt_wcipherFrom _ (by rw [hlen]) (by rwa [hlen]),
        byteAt_take hfirst, addrKey, hsame, hplace]
      rfl
    · have hlater : 4096 ≤ k := Nat.not_lt.mp hfirst
      rw [byteAt_append_of_le (by rwa [hsector]), hsector, ih (by omega) (by rw [List.length_drop]; omega) (by omega),
        byteAt_drop, Nat.add_sub_cancel' hlater, Nat.add_assoc, Nat.add_sub_cancel' hlater]

/-- Any part of the ciphered sectors is undone to the same part of the data (R224, R232). -/
theorem undone_ciphered (ha : a % 4096 = 0) (hd : d.length = 4096 * n) (i m : Nat) :
    undone seedOf (a + i) (((ciphered seedOf n a d).drop i).take m) = (d.drop i).take m := by
  have hlen : (((ciphered seedOf n a d).drop i).take m).length = ((d.drop i).take m).length := by
    rw [List.length_take, List.length_take, List.length_drop, List.length_drop, ciphered_length _ hd, hd]
  refine ext_byteAt (by rw [undone_length, hlen]) fun k hk => ?_
  rw [undone_length] at hk
  rw [byteAt_undone _ _ hk]
  rw [List.length_take, List.length_drop, ciphered_length _ hd] at hk
  rw [byteAt_take (by omega), byteAt_take (by omega), byteAt_drop, byteAt_drop, byteAt_ciphered _ ha hd (by omega),
    Nat.add_assoc, BitVec.xor_assoc, BitVec.xor_self, BitVec.xor_zero]

/-- Sector `j` of the ciphered sectors. -/
theorem ciphered_sector (hd : d.length = 4096 * n) {j : Nat} (hj : j < n) :
    ((ciphered seedOf n a d).drop (4096 * j)).take 4096 =
      wcipher (seedOf.at (BitVec.ofNat 24 (a + 4096 * j))) ((d.drop (4096 * j)).take 4096) := by
  induction n generalizing a d j with
  | zero => omega
  | succ n ih =>
    have hsector := wcipher_sector_length (seedOf.at (BitVec.ofNat 24 a)) hd
    rw [ciphered]
    cases j with
    | zero => exact List.take_left' hsector
    | succ j =>
      rw [Nat.mul_succ, Nat.add_comm (4096 * j), ← List.drop_drop, List.drop_left' hsector,
        ih (by rw [List.length_drop]; omega) (Nat.lt_of_succ_lt_succ hj), List.drop_drop, Nat.add_assoc]

/-- Page `i` of the ciphered sectors lies in sector `i / 16` (R230). -/
theorem ciphered_page (hd : d.length = 4096 * n) {i : Nat} (hi : i < 16 * n) :
    ((ciphered seedOf n a d).drop (256 * i)).take 256 =
      ((wcipher (seedOf.at (BitVec.ofNat 24 (a + 4096 * (i / 16)))) ((d.drop (4096 * (i / 16))).take 4096)).drop
        (256 * (i % 16))).take 256 := by
  rw [← ciphered_sector seedOf hd (by omega), List.drop_take, List.take_take, List.drop_drop,
    show 4096 * (i / 16) + 256 * (i % 16) = 256 * i by omega, Nat.min_eq_left (by omega)]

end Ciphered

/-! ## The loops of `DUMP2SYX` -/

/-- The pages of a sector are a stream of pages (R230). -/
theorem pageMsgs_fst (key : Vector Byte 13) (model : Byte) (n a : Nat) (c : Bytes) (s : State) :
    (pageMsgs key model n a c s).1 = dumpStream s.cfg.ckBitOrder key 0x34 (a / 256) (pagesOf model n c) := by
  induction n generalizing a c s with
  | zero => rfl
  | succ n ih =>
    have hrest := ih (a + 256) (c.drop 256) (s.putPage key (pidxOfAddr a) (c.take 256))
    rw [Nat.add_div_right a (by decide)] at hrest
    rw [dumpStream_pagesOf_succ]
    exact congrArg₂ (· ++ ·) rfl hrest

/-- The sectors of a dump are a stream of the pages of the ciphered sectors (R230). -/
theorem sectorMsgs_fst (key : Vector Byte 13) (model : Byte) {n : Nat} (a : Nat) {d : Bytes} (hd : d.length = 4096 * n)
    (s : State) :
    (sectorMsgs key model n a d s).1 =
      dumpStream s.cfg.ckBitOrder key 0x34 (a / 256) (pagesOf model (16 * n) (ciphered s.cfg.seedOf n a d)) := by
  induction n generalizing a d s with
  | zero => rfl
  | succ n ih =>
    have hsector := wcipher_sector_length (s.cfg.seedOf.at (BitVec.ofNat 24 a)) hd
    have hcfg := pageMsgs_snd_cfg key model 16 a (wcipher (s.cfg.seedOf.at (BitVec.ofNat 24 a)) (d.take 4096))
      (s.putWreg (wregAfter (s.cfg.seedOf.at (BitVec.ofNat 24 a)) (d.take 4096)))
    have hrest := ih (a + 4096) (d := d.drop 4096) (by rw [List.length_drop]; omega) (pageMsgs key model 16 a
      (wcipher (s.cfg.seedOf.at (BitVec.ofNat 24 a)) (d.take 4096))
      (s.putWreg (wregAfter (s.cfg.seedOf.at (BitVec.ofNat 24 a)) (d.take 4096)))).2
    rw [hcfg, State.putWreg_cfg, show (a + 4096) / 256 = a / 256 + 16 by omega] at hrest
    rw [ciphered, show 16 * (n + 1) = 16 + 16 * n by omega, pagesOf_append model (by rw [hsector]), dumpStream_append,
      pagesOf_length, ← hrest]
    exact congrArg (· ++ _) (pageMsgs_fst key model 16 a _ _)

/-- Between `s` and `t` only `WREG`, `CK` and `TKI` changed. -/
def OnlyCiphers (s t : State) : Prop :=
  t = { s with dp := { s.dp with wreg := t.dp.wreg, ck := t.dp.ck, tki := t.dp.tki } }

theorem OnlyCiphers.trans {s t u : State} (h : OnlyCiphers s t) (k : OnlyCiphers t u) : OnlyCiphers s u := by
  unfold OnlyCiphers at *
  rw [k, h]

theorem pageMsgs_onlyCiphers (key : Vector Byte 13) (model : Byte) (n a : Nat) (c : Bytes) (s : State) :
    OnlyCiphers s (pageMsgs key model n a c s).2 := by
  induction n generalizing a c s with
  | zero => exact rfl
  | succ n ih => exact OnlyCiphers.trans (t := s.putPage key (pidxOfAddr a) (c.take Config.pageSize)) rfl (ih _ _ _)

theorem sectorMsgs_onlyCiphers (key : Vector Byte 13) (model : Byte) (n a : Nat) (d : Bytes) (s : State) :
    OnlyCiphers s (sectorMsgs key model n a d s).2 := by
  induction n generalizing a d s with
  | zero => exact rfl
  | succ n ih =>
    exact OnlyCiphers.trans
      (t := s.putWreg (wregAfter (s.cfg.seedOf.at (BitVec.ofNat 24 a)) (d.take Config.sectorSize))) rfl
      ((pageMsgs_onlyCiphers key model 16 a _ _).trans (ih _ _ _))

/-! ## The checks of `DUMP2SYX` -/

theorem padDump_length (dump : Bytes) : (padDump dump).length = alignUp dump.length 4096 := by
  have hge := alignUp_ge dump.length (m := 4096) (by decide)
  rw [padDump, List.length_append, List.length_replicate]
  exact Nat.add_sub_cancel' hge.1

theorem padDump_length_mod (dump : Bytes) : (padDump dump).length % 4096 = 0 := by
  rw [padDump_length]
  exact (alignUp_ge dump.length (m := 4096) (by decide)).2.2

section Dump2syx

variable {s : State} {key : Vector Byte 13} {base : Addr} {model : Byte} {dump : Bytes}

theorem dump2syxRun_of_legal (h : legalRange s.cfg.addrLimit base model (padDump dump).length) :
    dump2syxRun key base model dump s =
      .ok (sectorMsgs key model ((padDump dump).length / 4096) base.toNat (padDump dump) s).1
        (sectorMsgs key model ((padDump dump).length / 4096) base.toNat (padDump dump) s).2 := by
  obtain ⟨haligned, hfloor, hmodel, hlimit, htop, hsentinel⟩ := h
  have hbase : ¬(base.toNat % 4096 ≠ 0 ∨ base.toNat < 0x2000) := by omega
  have hbyte : ¬isDataByte model = false := by rwa [Bool.not_eq_false, isDataByte_iff]
  have hrange : ¬(s.cfg.addrLimit < base.toNat + (padDump dump).length ∨
      2 ^ 24 < base.toNat + (padDump dump).length) := by
    omega
  exact (if_neg hbase).trans <| (if_neg hbyte).trans <| (if_neg hrange).trans (if_neg hsentinel)

theorem dump2syxRun_of_not_legal (h : ¬legalRange s.cfg.addrLimit base model (padDump dump).length) :
    ∃ info, dump2syxRun key base model dump s = .raised ⟨.formatError, info⟩ s := by
  unfold dump2syxRun
  dsimp only
  split
  · exact ⟨_, rfl⟩
  next hbase =>
    split
    · exact ⟨_, rfl⟩
    next hmodel =>
      split
      · exact ⟨_, rfl⟩
      next hrange =>
        split
        · exact ⟨_, rfl⟩
        next hsentinel =>
          rw [not_or, not_not, Nat.not_lt] at hbase
          rw [Bool.not_eq_false, isDataByte_iff] at hmodel
          rw [not_or, Nat.not_lt, Nat.not_lt] at hrange
          exact absurd ⟨hbase.1, hbase.2, hmodel, hrange.1, hrange.2, hsentinel⟩ h

end Dump2syx

/-- The ciphered sectors of a dump filled with zeros. -/
def cipheredDump (cfg : ConfigRegs) (base : Addr) (dump : Bytes) : Bytes :=
  ciphered cfg.seedOf ((padDump dump).length / 4096) base.toNat (padDump dump)

/-- The stream of `DUMP2SYX` (R230). -/
def syxOf (cfg : ConfigRegs) (key : Vector Byte 13) (base : Addr) (model : Byte) (dump : Bytes) : Bytes :=
  dumpStream cfg.ckBitOrder key 0x34 (base.toNat / 256)
    (pagesOf model ((padDump dump).length / 256) (cipheredDump cfg base dump))

theorem padDump_sectors (dump : Bytes) : (padDump dump).length = 4096 * ((padDump dump).length / 4096) := by
  have h := padDump_length_mod dump
  omega

theorem padDump_pages (dump : Bytes) : (padDump dump).length = 256 * ((padDump dump).length / 256) := by
  have h := padDump_length_mod dump
  omega

theorem cipheredDump_length (cfg : ConfigRegs) (base : Addr) (dump : Bytes) :
    (cipheredDump cfg base dump).length = (padDump dump).length :=
  (ciphered_length cfg.seedOf (padDump_sectors dump)).trans (padDump_sectors dump).symm

/-- A dump of whole sectors has sixteen pages a sector. -/
theorem padDump_pages_sectors (dump : Bytes) :
    (padDump dump).length / 256 = 16 * ((padDump dump).length / 4096) := by
  have h := padDump_length_mod dump
  omega

section Syx

variable {s : State} {key : Vector Byte 13} {base : Addr} {model : Byte} {dump : Bytes}

/-- On a legal range `DUMP2SYX` answers its stream and leaves the registers of the ciphers and the checksum (R230). -/
theorem dump2syxRun_syxOf (key : Vector Byte 13) (h : legalRange s.cfg.addrLimit base model (padDump dump).length) :
    ∃ t, dump2syxRun key base model dump s = .ok (syxOf s.cfg key base model dump) t ∧ OnlyCiphers s t := by
  refine ⟨_, ?_, sectorMsgs_onlyCiphers key model ((padDump dump).length / 4096) base.toNat (padDump dump) s⟩
  rw [dump2syxRun_of_legal h, sectorMsgs_fst key model base.toNat (padDump_sectors dump), ← padDump_pages_sectors]
  rfl

/-- The registers of an operation that writes only those of the ciphers and the checksum. -/
def CipherDp (s : State) (dp : Datapath) : Prop :=
  dp = { s.startDp .done with wreg := dp.wreg, ck := dp.ck, tki := dp.tki }

theorem finish_of_onlyCiphers {f : ParamRegs → ParamRegs} {t : State} (h : OnlyCiphers (s.latch f).begin t)
    (out : Bytes) :
    ∃ dp, finish ((Run.ok out t).andThen onlyOut) = s.endedOk (f s.par) dp (onlyBytes out) ∧ CipherDp s dp := by
  unfold OnlyCiphers at h
  generalize t.dp.wreg = w, t.dp.ck = ck, t.dp.tki = i at h
  subst h
  exact ⟨{ s.startDp .done with wreg := w, ck := ck, tki := i }, rfl, rfl⟩

theorem exec_dump2syx_of_legal (hkey : s.cfg.transportKey = some key)
    (h : legalRange s.cfg.addrLimit base model (padDump s.inBuf).length) :
    ∃ dp, exec (.dump2syx base model) s =
        .next (s.endedOk { s.par with opc := some 0x10, base := some base, model := some model } dp
          (onlyBytes (syxOf s.cfg key base model s.inBuf))) ∧ CipherDp s dp := by
  obtain ⟨t, hrun, ht⟩ := dump2syxRun_syxOf (s := (s.latch (latched (.dump2syx base model))).begin) key h
  obtain ⟨dp, hfinish, hdp⟩ := finish_of_onlyCiphers ht (syxOf s.cfg key base model s.inBuf)
  refine ⟨dp, ?_, hdp⟩
  rw [exec_dump2syx hkey, hrun]
  exact congrArg Host.Outcome.next hfinish

theorem exec_dump2syx_of_not_legal (hkey : s.cfg.transportKey = some key)
    (h : ¬legalRange s.cfg.addrLimit base model (padDump s.inBuf).length) :
    ∃ info, exec (.dump2syx base model) s =
      .next (s.endedErr { s.par with opc := some 0x10, base := some base, model := some model } (s.startDp .failed)
        ⟨.formatError, info⟩) := by
  obtain ⟨info, hrun⟩ := dump2syxRun_of_not_legal (s := (s.latch (latched (.dump2syx base model))).begin) (key := key) h
  refine ⟨info, ?_⟩
  rw [exec_dump2syx hkey, hrun]
  rfl

theorem syxOf_length (cfg : ConfigRegs) :
    (syxOf cfg key base model dump).length = 303 * ((padDump dump).length / 256) :=
  dumpStream_pagesOf_length _ _ _ _ _ (by rw [cipheredDump_length]; exact (padDump_pages dump).ge)

/-- Message `i` of the stream. -/
theorem syxOf_msg (cfg : ConfigRegs) {i : Nat} (hi : i < (padDump dump).length / 256) :
    ((syxOf cfg key base model dump).drop (303 * i)).take 303 =
      pageMsg cfg.ckBitOrder key 0x34 model (base.toNat / 256 + i)
        (((cipheredDump cfg base dump).drop (256 * i)).take 256) :=
  dumpStream_pagesOf_msg _ _ _ _ _ (by rw [cipheredDump_length]; exact (padDump_pages dump).ge) hi

theorem cipheredDump_page_length (cfg : ConfigRegs) {i : Nat} (hi : i < (padDump dump).length / 256) :
    (((cipheredDump cfg base dump).drop (256 * i)).take 256).length = 256 := by
  have hlen := padDump_pages dump
  rw [List.length_take, List.length_drop, cipheredDump_length]
  omega

end Syx

/-! ## The seeds -/

/-- An address without an entry has the default seed (R147). -/
theorem seedOf_at_default {f : SeedOf} {a : Addr} (h : ∀ v, (a, v) ∉ f.entries) : f.at a = a.setWidth 16 := by
  have hnone : f.entries.lookup a = none := List.lookup_eq_none_iff.mpr fun p hp =>
    bne_iff_ne.mpr fun heq => h p.2 (heq ▸ hp)
  rw [SeedOf.at, hnone, Option.getD_none]

/-- Of the entries for an address the first counts (log 8). -/
theorem seedOf_at_first {f : SeedOf} {a : Addr} {v : Half} {before after : List (Addr × Half)}
    (hf : f.entries = before ++ (a, v) :: after) (h : ∀ w, (a, w) ∉ before) : f.at a = v := by
  have hsome : f.entries.lookup a = some v := List.lookup_eq_some_iff.mpr
    ⟨before, after, hf, fun p hp => bne_iff_ne.mpr fun heq => h p.2 (heq ▸ hp)⟩
  rw [SeedOf.at, hsome, Option.getD_some]

/-- Settles O34: on a legal range the stream is read message by message, on any other a check fails; and the seeds. -/
theorem dump2syxResult : Obligations.Dump2syxResult := by
  refine ⟨fun s key base model hkey => ?_, fun f a => ⟨seedOf_at_default, fun v before after => seedOf_at_first⟩⟩
  have hlen := padDump_length s.inBuf
  refine ⟨fun hlegal => ?_, fun hillegal => exec_dump2syx_of_not_legal hkey (hlen ▸ hillegal)⟩
  obtain ⟨dp, hexec, hdp⟩ := exec_dump2syx_of_legal hkey (hlen ▸ hlegal)
  refine ⟨syxOf s.cfg key base model s.inBuf, dp, hexec, hdp, hlen ▸ syxOf_length s.cfg, fun i hi => ?_⟩
  rw [← hlen] at hi
  have hpage := cipheredDump_page_length (base := base) s.cfg hi
  have hdata : ((cipheredDump s.cfg base s.inBuf).drop (256 * i)).take 256 = _ :=
    ciphered_page s.cfg.seedOf (padDump_sectors s.inBuf) (by rwa [← padDump_pages_sectors])
  have hmsg := syxOf_msg (key := key) (base := base) (model := model) s.cfg hi
  obtain ⟨hhead, hend, hpayload⟩ := pageMsg_fields s.cfg.ckBitOrder key 0x34 model (base.toNat / 256 + i) hpage
  rw [← hmsg] at hhead hend hpayload
  refine ⟨hhead, hend, ?_, ?_⟩
  · rw [hpayload]
    exact pagePayload_lt _ _ _ _
  · rw [hpayload, hdata]
    exact plainOf_pagePayload _ key _ (hdata ▸ hpage)

end Sys2Proof.Machine
end

section
/-! There and back (spec/44_format_converter.md R232, R242): `SYX2DUMP` undoes `DUMP2SYX`, whole and message by message,
and `SYX2OS` undoes `OS2SYX`. -/

namespace Sys2Proof.Machine

theorem pageAddr_of_aligned {base : Addr} (h : base.toNat % 0x1000 = 0) (i : Nat) :
    pageAddr (base.toNat / 256 + i) = BitVec.ofNat 24 (base.toNat + 256 * i) := by
  rw [pageAddr, show 256 * (base.toNat / 256 + i) = base.toNat + 256 * i by omega]

/-- `SYX2DUMP` ends OK with this dump and base, and no event. -/
def DumpsTo (s : State) (d : Bytes) (base : Addr) : Prop :=
  ∃ t, exec .syx2dump s = .next t ∧ t.result = some (okResult ⟨d, some base, none, none⟩ [])

section RoundTrip

variable {s : State} {key : Vector Byte 13} {base : Addr} {model : Byte} {dump : Bytes}

/-- Write pages alone, from a page of a sector-aligned base on, whose data are ciphered: `SYX2DUMP` returns the data. -/
theorem dumpsTo_of_pages (hkey : s.cfg.transportKey = some key) (hmodel : model.toNat < 0x80)
    (hbase : base.toNat % 0x1000 = 0) {i n : Nat} (hn : n ≠ 0) (hp : base.toNat / 256 + i + n ≤ 2 ^ 16) {c : Bytes}
    (hc : c.length = 256 * n)
    (hin : s.inBuf = dumpStream s.cfg.ckBitOrder key 0x34 (base.toNat / 256 + i) (pagesOf model n c)) :
    DumpsTo s (undone s.cfg.seedOf (base.toNat + 256 * i) c) (BitVec.ofNat 24 (base.toNat + 256 * i)) := by
  have hsome : pagesOf model n c ≠ [] := fun h => hn (by rw [← pagesOf_length model n c, h, List.length_nil])
  obtain ⟨dp, hdumps⟩ := exec_syx2dump_pages hkey (cmd := 0x34) (.inr rfl) hsome (pagesOf_sound hmodel hc.ge)
    (after := []) (fun body hbody => absurd hbody List.not_mem_nil) (by rwa [pagesOf_length])
    (hin.trans (List.append_nil _).symm)
  refine ⟨_, hdumps.exec, ?_⟩
  rw [pagesOf_data model hc, dumpOut_write, pageAddr_of_aligned hbase,
    show 256 * (base.toNat / 256 + i) = base.toNat + 256 * i by omega]
  exact congrArg (fun events => some (okResult _ events)) hdumps.events

/-- The ciphered sectors are undone to the dump filled with zeros (R224, R232). -/
theorem undone_cipheredDump (cfg : ConfigRegs) (hbase : base.toNat % 0x1000 = 0) :
    undone cfg.seedOf base.toNat (cipheredDump cfg base dump) = padDump dump := by
  have hall : undone cfg.seedOf (base.toNat + 0) (((cipheredDump cfg base dump).drop 0).take (padDump dump).length) =
      ((padDump dump).drop 0).take (padDump dump).length :=
    undone_ciphered cfg.seedOf hbase (padDump_sectors dump) 0 (padDump dump).length
  rwa [Nat.add_zero, List.drop_zero, List.drop_zero, List.take_of_length_le (cipheredDump_length cfg base dump).le,
    List.take_length] at hall

/-- The stream of a dump decodes to the dump filled with zeros, at its base (R232). -/
theorem dumpsTo_syxOf (hkey : s.cfg.transportKey = some key)
    (hlegal : legalRange s.cfg.addrLimit base model (padDump dump).length) (hsome : 0 < dump.length)
    (hin : s.inBuf = syxOf s.cfg key base model dump) : DumpsTo s (padDump dump) base := by
  obtain ⟨haligned, -, hmodel, -, htop, -⟩ := hlegal
  have hpages := padDump_pages dump
  have hle : dump.length ≤ (padDump dump).length := by
    rw [padDump, List.length_append]
    exact Nat.le_add_right _ _
  have h := dumpsTo_of_pages hkey hmodel haligned (i := 0) (by omega) (by omega)
    ((cipheredDump_length s.cfg base dump).trans hpages) hin
  rw [Nat.mul_zero, Nat.add_zero, undone_cipheredDump s.cfg haligned, BitVec.ofNat_toNat, BitVec.setWidth_eq] at h
  exact h

/-- Each message of the stream of a dump decodes to its own page, at its own address (R232). -/
theorem dumpsTo_syxOf_msg (hkey : s.cfg.transportKey = some key)
    (hlegal : legalRange s.cfg.addrLimit base model (padDump dump).length) {i : Nat}
    (hi : i < (padDump dump).length / 256)
    (hin : s.inBuf = ((syxOf s.cfg key base model dump).drop (303 * i)).take 303) :
    DumpsTo s (((padDump dump).drop (256 * i)).take 256) (BitVec.ofNat 24 (base.toNat + 256 * i)) := by
  obtain ⟨haligned, -, hmodel, -, htop, -⟩ := hlegal
  have hpage := cipheredDump_page_length (base := base) s.cfg hi
  have hstream : s.inBuf = dumpStream s.cfg.ckBitOrder key 0x34 (base.toNat / 256 + i)
      (pagesOf model 1 (((cipheredDump s.cfg base dump).drop (256 * i)).take 256)) := by
    rw [hin, syxOf_msg s.cfg hi, dumpStream_pagesOf_succ, List.take_of_length_le hpage.le]
    exact (List.append_nil _).symm
  have h := dumpsTo_of_pages hkey hmodel haligned one_ne_zero (by omega) hpage hstream
  rw [cipheredDump, undone_ciphered s.cfg.seedOf (by omega) (padDump_sectors dump)] at h
  exact h

theorem syxOf_nil (cfg : ConfigRegs) : syxOf cfg key base model [] = [] := rfl

/-- `DUMP2SYX` on a legal range ends with its stream in `OUT`. -/
theorem exec_dump2syx_returns (hkey : s.cfg.transportKey = some key)
    (hlegal : legalRange s.cfg.addrLimit base model (padDump s.inBuf).length) :
    ∃ t, exec (.dump2syx base model) s = .next t ∧ t.cfg = s.cfg ∧ t.outBuf = syxOf s.cfg key base model s.inBuf ∧
      t.returned (onlyBytes t.outBuf) := by
  obtain ⟨dp, hexec, -⟩ := exec_dump2syx_of_legal hkey hlegal
  exact ⟨_, hexec, rfl, rfl, returned_endedOk _ _ _ _⟩

end RoundTrip

/-- Settles O35: the stream is one of write pages, whose cipher `SYX2DUMP` undoes. -/
theorem syx2dumpInvertsDump2syx : Obligations.Syx2dumpInvertsDump2syx := by
  intro s key base model hkey d hlegal
  obtain ⟨t, hexec, hcfg, hout, hreturned⟩ := exec_dump2syx_returns hkey hlegal
  rw [← hcfg] at hkey hlegal hout
  refine ⟨fun hsome => ?_, fun hempty => ?_⟩
  · obtain ⟨u, hu, hresult⟩ := dumpsTo_syxOf (s := { t with inBuf := t.outBuf }) hkey hlegal hsome hout
    refine ⟨t, u, hexec, hu, hresult, fun i hi => ?_⟩
    exact dumpsTo_syxOf_msg (s := { t with inBuf := (t.outBuf.drop (303 * i)).take 303 }) hkey hlegal hi (by rw [hout])
  · rw [hempty, syxOf_nil] at hout
    rw [hout] at hreturned
    obtain ⟨dp, info, hu, -, -⟩ := dumpFails_of_noPage (s := { t with inBuf := [] }) (bodies := []) hkey
      (fun body hbody => absurd hbody List.not_mem_nil) rfl
    exact ⟨t, _, hexec, hreturned, hu, rfl⟩

/-! ## Images -/

/-- The dump of an image is of whole sectors, so nothing is filled (R189). -/
theorem padDump_dumpOf (t1 : Vector Word 15) (t2 : Vector Word 14) (image : Bytes) :
    padDump (dumpOf t1 t2 image) = dumpOf t1 t2 image := by
  have hwhole : alignUp (alignUp (8 + align4 image.length) 4096) 4096 = alignUp (8 + align4 image.length) 4096 := by
    simp only [alignUp]
    omega
  have hfill : alignUp (dumpOf t1 t2 image).length Config.sectorSize - (dumpOf t1 t2 image).length = 0 := by
    rw [dumpOf_length]
    exact Nat.sub_eq_zero_of_le hwhole.le
  rw [padDump, hfill]
  exact List.append_nil _

section Images

variable {s : State} {key : Vector Byte 13} {t1 : Vector Word 15} {t2 : Vector Word 14} {base : Addr} {model : Byte}

/-- `OS2SYX` ends with the stream of the image's dump in `OUT` (R241). -/
theorem exec_os2syx_returns (hkey : s.cfg.transportKey = some key) (h1 : s.cfg.osT1 = some t1)
    (h2 : s.cfg.osT2 = some t2) (hfits : imageFits s.inBuf)
    (hlegal : legalRange s.cfg.addrLimit base model (padDump (dumpOf t1 t2 s.inBuf)).length) :
    ∃ t, exec (.os2syx base model) s = .next t ∧ t.outBuf = syxOf s.cfg key base model (dumpOf t1 t2 s.inBuf) ∧
      t.returned (onlyBytes t.outBuf) := by
  obtain ⟨v, hrun, -⟩ := dump2syxRun_syxOf
    (s := ((s.latch (latched (.os2syx base model))).begin.putImageSum (imageSum (imageWords s.inBuf))).putWofs
      (align4 s.inBuf.length / 4 + 1)) key hlegal
  refine ⟨_, exec_os2syx hkey h1 h2 base model, ?_⟩
  rw [os2dumpRun_of_fits hfits, Run.andThen_ok, hrun]
  exact ⟨rfl, returned_returnOk _ _⟩

/-- `SYX2OS` of a stream that decodes to the dump of an image returns the image, with the base of the stream (R240). -/
theorem exec_syx2os_returns (hkey : s.cfg.transportKey = some key) (h1 : s.cfg.osT1 = some t1)
    (h2 : s.cfg.osT2 = some t2) {image : Bytes} (hfits : imageFits image) (hdumps : DumpsTo s (dumpOf t1 t2 image) base) :
    ∃ u, exec .syx2os s = .next u ∧ u.returned ⟨image, some base, none, none⟩ := by
  obtain ⟨w, hw, hresult⟩ := hdumps
  have hcfg := cfg_of_exec hw
  obtain ⟨v, hv, -, hparts⟩ := syx2os_endsAfter hkey h1 h2 hw
  obtain ⟨u, hu, hends⟩ := hparts _ ⟨[], hresult⟩
  obtain ⟨u', hu', himage⟩ := exec_dump2os_dumpOf (s := { w with inBuf := dumpOf t1 t2 image })
    ((congrArg ConfigRegs.osT1 hcfg).trans h1) ((congrArg ConfigRegs.osT2 hcfg).trans h2) hfits rfl
  cases hu.symm.trans hu'
  obtain ⟨out, hout, hreturned⟩ := hends.returned _ himage
  cases hout
  exact ⟨v, hv, hreturned⟩

end Images

theorem par_of_exec {i : Instr} {s t : State} (h : exec i s = .next t) : t.par = latched i s.par :=
  (execEnds_of_next h).keepsHost.par

/-- Settles O36: the first operation ends with the stream of the image's dump, from which the second makes the dump, and
from that the image. -/
theorem syx2osInvertsOs2syx : Obligations.Syx2osInvertsOs2syx := by
  intro s key t1 t2 base model hkey h1 h2 hfits hrange
  have hlegal : legalRange s.cfg.addrLimit base model (padDump (dumpOf t1 t2 s.inBuf)).length := by
    rwa [padDump_dumpOf, dumpOf_length]
  have hsome : 0 < (dumpOf t1 t2 s.inBuf).length := by
    rw [dumpOf_length]
    exact Nat.lt_of_lt_of_le (Nat.add_pos_left (by decide) _) (alignUp_ge _ (m := 4096) (by decide)).1
  obtain ⟨t, ht, hout, hreturned⟩ := exec_os2syx_returns hkey h1 h2 hfits hlegal
  rw [← cfg_of_exec ht] at hkey h1 h2 hlegal hout
  have hdumps := dumpsTo_syxOf (s := { t with inBuf := t.outBuf }) hkey hlegal hsome hout
  rw [padDump_dumpOf] at hdumps
  obtain ⟨u, hu, himage⟩ := exec_syx2os_returns (s := { t with inBuf := t.outBuf }) hkey h1 h2 hfits hdumps
  exact ⟨t, u, t.outBuf, ht, hreturned, rfl, par_of_exec ht, hu, himage, par_of_exec hu⟩

end Sys2Proof.Machine
end

section
/-! What a wait makes of a script (spec/45_device_channel.md R260, R263, spec/20_memory.md R66): the receive framer byte
by byte, a wait over messages that it discards, and the start byte of every message received. -/

namespace Sys2Proof.Machine

/-! ## The receive framer byte by byte -/

/-- What a wait took, with items taken before it. -/
def RecvRun.after (taken : List RecvItem) (r : RecvRun) : RecvRun := ⟨r.msg, r.rest, taken ++ r.seen⟩

theorem RecvRun.after_after (xs ys : List RecvItem) (r : RecvRun) : (r.after ys).after xs = r.after (xs ++ ys) := by
  simp [RecvRun.after]

/-- Bytes take the receive framer from one state to another without completing a message (R263). -/
inductive LeadsTo : RxState → Bytes → RxState → Prop where
  | nil (rx : RxState) : LeadsTo rx [] rx
  | cons {rx rx' rx'' : RxState} {b : Byte} {bs : Bytes} (h : rxByte rx b = .more rx') (hrest : LeadsTo rx' bs rx'') :
      LeadsTo rx (b :: bs) rx''

theorem LeadsTo.append {rx rx' rx'' : RxState} {bs cs : Bytes} (h : LeadsTo rx bs rx') (k : LeadsTo rx' cs rx'') :
    LeadsTo rx (bs ++ cs) rx'' := by
  induction h with
  | nil => exact k
  | cons hb _ ih => exact .cons hb (ih k)

/-- A wait goes on from where the bytes lead. -/
theorem LeadsTo.recvUntil {rx rx' : RxState} {bs : Bytes} (h : LeadsTo rx bs rx') (skip : Bytes → Bool)
    (rest : List RecvItem) :
    recvUntil skip rx (bs.map .byte ++ rest) = (recvUntil skip rx' rest).after (bs.map .byte) := by
  induction h with
  | nil => rfl
  | cons hb _ ih =>
    rw [List.map_cons, List.cons_append, Machine.recvUntil, hb]
    simp only [ih]
    rfl

/-- Outside a message, bytes other than a start byte are dropped. -/
theorem LeadsTo.gap {gap : Bytes} (h : ∀ b ∈ gap, b ≠ 0xF0) : LeadsTo .outside gap .outside := by
  induction gap with
  | nil => exact .nil _
  | cons b gap ih =>
    obtain ⟨hb, hgap⟩ := List.forall_mem_cons.mp h
    exact .cons (if_neg hb) (ih hgap)

/-- A start byte starts a message afresh, in any state. -/
theorem rxByte_sox (rx : RxState) : rxByte rx 0xF0 = .more (.inside [0xF0]) := by
  cases rx <;> rfl

theorem rxByte_eox (buf : Bytes) : rxByte (.inside buf) 0xF7 = .complete (buf ++ [0xF7]) := rfl

/-- A real-time byte inside a message is dropped. -/
theorem rxByte_realTime {buf : Bytes} {x : Byte} (h : 0xF8 ≤ x.toNat) :
    rxByte (.inside buf) x = .more (.inside buf) := by
  have hend : x ≠ Config.eox := by rintro rfl; exact absurd h (by decide)
  have hstart : x ≠ Config.sox := by rintro rfl; exact absurd h (by decide)
  simp only [rxByte, if_neg hend, if_neg hstart, if_pos h]

/-- Any other status byte drops the part of a message read. -/
theorem rxByte_status {buf : Bytes} {x : Byte} (hlow : 0x80 ≤ x.toNat) (hhigh : x.toNat < 0xF8) (hend : x ≠ 0xF7)
    (hstart : x ≠ 0xF0) : rxByte (.inside buf) x = .more .outside := by
  have hend' : x ≠ Config.eox := hend
  have hstart' : x ≠ Config.sox := hstart
  simp only [rxByte, if_neg hend', if_neg hstart', if_neg (Nat.not_le.mpr hhigh), if_pos hlow]

/-- What a message keeps of the bytes inside it (R263). -/
def dataBytes (bs : Bytes) : Bytes := bs.filter fun b => decide (b.toNat < 0x80)

/-- Inside a message, data bytes are kept and real-time bytes dropped. -/
theorem LeadsTo.body {bs : Bytes} (h : ∀ b ∈ bs, b.toNat < 0x80 ∨ 0xF8 ≤ b.toNat) (buf : Bytes) :
    LeadsTo (.inside buf) bs (.inside (buf ++ dataBytes bs)) := by
  induction bs generalizing buf with
  | nil =>
    rw [dataBytes, List.filter_nil, List.append_nil]
    exact .nil _
  | cons b bs ih =>
    obtain ⟨hb, hbs⟩ := List.forall_mem_cons.mp h
    obtain hdata | hrealTime := hb
    · have hkeep : buf ++ dataBytes (b :: bs) = buf ++ [b] ++ dataBytes bs := by simp [dataBytes, hdata]
      rw [hkeep]
      exact .cons (rxByte_data hdata) (ih hbs _)
    · have hdrop : dataBytes (b :: bs) = dataBytes bs := by
        rw [dataBytes, List.filter_cons_of_neg (by simp; omega), dataBytes]
      rw [hdrop]
      exact .cons (rxByte_realTime hrealTime) (ih hbs _)

/-- From any state, a start byte and the bytes of a message. -/
theorem LeadsTo.started {bs : Bytes} (h : ∀ b ∈ bs, b.toNat < 0x80 ∨ 0xF8 ≤ b.toNat) (rx : RxState) :
    LeadsTo rx (0xF0 :: bs) (.inside (0xF0 :: dataBytes bs)) :=
  .cons (rxByte_sox rx) (LeadsTo.body h [0xF0])

/-- `RECVMSG` from any state takes a message and nothing after it. -/
theorem recvUntil_first {bs : Bytes} (h : ∀ b ∈ bs, b.toNat < 0x80 ∨ 0xF8 ≤ b.toNat) (rx : RxState)
    (rest : List RecvItem) :
    recvUntil (fun _ => false) rx ((0xF0 :: bs ++ [0xF7]).map .byte ++ rest) =
      ⟨some (framedMsg (dataBytes bs)), rest, (0xF0 :: bs ++ [0xF7]).map .byte⟩ := by
  rw [List.map_append, List.append_assoc, (LeadsTo.started h rx).recvUntil]
  simp only [List.map_cons, List.map_nil, List.cons_append, List.nil_append, recvUntil, rxByte_eox, Bool.false_eq_true,
    if_false]
  rfl

/-- A `NoData` ends a wait in any state. -/
theorem recvUntil_noData (skip : Bytes → Bool) (rx : RxState) (rest : List RecvItem) :
    recvUntil skip rx (.noData :: rest) = ⟨none, rest, [.noData]⟩ := by
  cases rx <;> rfl

/-- What a wait takes is the front of the script, in order (spec/20_memory.md R66). -/
theorem recvUntil_takesFront (skip : Bytes → Bool) (rx : RxState) (script : List RecvItem) :
    (recvUntil skip rx script).seen ++ (recvUntil skip rx script).rest = script ∨
      ((recvUntil skip rx script).msg = none ∧ (recvUntil skip rx script).rest = [] ∧
        (recvUntil skip rx script).seen = script ++ [.noData]) := by
  fun_induction recvUntil skip rx script with
  | case1 => exact .inr ⟨rfl, rfl, rfl⟩
  | case2 => exact .inl rfl
  | case3 rx b rest rx' hmore r ih =>
    obtain hfront | ⟨hmsg, hrest, hseen⟩ := ih
    · exact .inl (congrArg (RecvItem.byte b :: ·) hfront)
    · exact .inr ⟨hmsg, hrest, congrArg (RecvItem.byte b :: ·) hseen⟩
  | case4 rx b rest m hcomplete hskip r ih =>
    obtain hfront | ⟨hmsg, hrest, hseen⟩ := ih
    · exact .inl (congrArg (RecvItem.byte b :: ·) hfront)
    · exact .inr ⟨hmsg, hrest, congrArg (RecvItem.byte b :: ·) hseen⟩
  | case5 => exact .inl rfl

/-- Settles O38: each of the three fronts leads the framer to some state, from which the message or the `NoData` ends
the wait. -/
theorem recvMsgFrames : Obligations.RecvMsgFrames := by
  refine ⟨?_, recvUntil_takesFront⟩
  intro gap bs cut x rest hgap hbs hcut hlow hhigh hend hstart m front hfront
  obtain ⟨rx, hleads⟩ : ∃ rx, LeadsTo .outside front rx := by
    have hcutOff : LeadsTo .outside (0xF0 :: cut ++ [x]) .outside :=
      (LeadsTo.started hcut .outside).append (.cons (rxByte_status hlow hhigh hend hstart) (.nil _))
    simp only [List.mem_cons, List.not_mem_nil, or_false] at hfront
    obtain rfl | rfl | rfl := hfront
    · exact ⟨_, .gap hgap⟩
    · exact ⟨_, .started hcut _⟩
    · exact ⟨_, hcutOff.append (.gap hgap)⟩
  constructor
  · rw [List.map_append, List.append_assoc, hleads.recvUntil, recvUntil_first hbs]
    rfl
  · rw [hleads.recvUntil, recvUntil_noData]
    rfl

/-! ## Waits over messages -/

section Waits

variable {skip : Bytes → Bool} {bodies : List Bytes}

/-- Messages that a wait discards: data bytes between their framing bytes. -/
def Discards (skip : Bytes → Bool) (bodies : List Bytes) : Prop :=
  ∀ body ∈ bodies, (∀ b ∈ body, b.toNat < 0x80) ∧ skip (framedMsg body) = true

/-- A wait goes on after the messages it discards. -/
theorem recvUntil_discarded (h : Discards skip bodies) (rest : List RecvItem) :
    recvUntil skip .outside ((framedBytes bodies).map .byte ++ rest) =
      (recvUntil skip .outside rest).after ((framedBytes bodies).map .byte) := by
  induction bodies with
  | nil => rfl
  | cons body bodies ih =>
    obtain ⟨⟨hbody, hskip⟩, hrest⟩ := List.forall_mem_cons.mp h
    have hbytes : framedBytes (body :: bodies) = framedMsg body ++ framedBytes bodies := rfl
    rw [hbytes, List.map_append, List.append_assoc, recvUntil_message skip body _ hbody, ih hrest]
    simp only [if_pos hskip]
    exact RecvRun.after_after _ _ _

/-- The first message that a wait does not discard ends it. -/
theorem recvUntil_answered (h : Discards skip bodies) {body : Bytes} (hbody : ∀ b ∈ body, b.toNat < 0x80)
    (hskip : skip (framedMsg body) = false) (rest : List RecvItem) :
    recvUntil skip .outside ((framedBytes bodies ++ framedMsg body).map .byte ++ rest) =
      ⟨some (framedMsg body), rest, (framedBytes bodies ++ framedMsg body).map .byte⟩ := by
  rw [List.map_append, List.append_assoc, recvUntil_discarded h, recvUntil_message skip body rest hbody]
  simp only [hskip, Bool.false_eq_true, if_false]
  rfl

/-- The channel is silent: its script is at its end, or says so (R260). -/
def Silent (script : List RecvItem) : Prop := script = [] ∨ script.head? = some .noData

/-- Silence ends a wait, and takes the `NoData` with it. -/
theorem recvUntil_silent (h : Discards skip bodies) {script : List RecvItem} (hsilent : Silent script) :
    recvUntil skip .outside ((framedBytes bodies).map .byte ++ script) =
      ⟨none, script.drop 1, (framedBytes bodies).map .byte ++ [.noData]⟩ := by
  rw [recvUntil_discarded h]
  obtain rfl | hhead := hsilent
  · rfl
  · obtain ⟨rest, rfl⟩ := List.head?_eq_some_iff.mp hhead
    rw [recvUntil_noData]
    rfl

end Waits

/-- The part of a message read so far begins with its start byte. -/
def RxState.Started : RxState → Prop
  | .outside => True
  | .inside buf => buf.head? = some 0xF0

theorem head?_append_of_head? {buf : Bytes} {a : Byte} (h : buf.head? = some a) (bs : Bytes) :
    (buf ++ bs).head? = some a := by
  rw [List.head?_append, h, Option.some_or]

theorem started_of_more {rx rx' : RxState} {b : Byte} (hrx : rx.Started) (h : rxByte rx b = .more rx') :
    rx'.Started := by
  cases rx with
  | outside =>
    simp only [rxByte] at h
    split at h
    · next hb => cases h; exact congrArg some hb
    · cases h; trivial
  | inside buf =>
    simp only [rxByte] at h
    split at h
    · cases h
    split at h
    · next hb => cases h; exact congrArg some hb
    split at h
    · cases h; exact hrx
    split at h
    · cases h; trivial
    · cases h; exact head?_append_of_head? hrx _

theorem head?_of_complete {rx : RxState} {b : Byte} {m : Bytes} (hrx : rx.Started) (h : rxByte rx b = .complete m) :
    m.head? = some 0xF0 := by
  cases rx with
  | outside => simp only [rxByte] at h; split at h <;> cases h
  | inside buf =>
    simp only [rxByte] at h
    split at h
    · cases h; exact head?_append_of_head? hrx _
    · split at h
      · cases h
      split at h
      · cases h
      split at h <;> cases h

/-- Every message that a wait answers begins with the start byte. -/
theorem recvUntil_head? (skip : Bytes → Bool) (rx : RxState) (script : List RecvItem) (hrx : rx.Started) {m : Bytes}
    (h : (recvUntil skip rx script).msg = some m) : m.head? = some 0xF0 := by
  fun_induction recvUntil skip rx script with
  | case1 => cases h
  | case2 => cases h
  | case3 rx b rest rx' hmore r ih => exact ih (started_of_more hrx hmore) h
  | case4 rx b rest m' hcomplete hskip r ih => exact ih trivial h
  | case5 rx b rest m' hcomplete hskip => cases h; exact head?_of_complete hrx hcomplete

end Sys2Proof.Machine
end

section
/-! The port of a channel operation (spec/45_device_channel.md R260 to R264): what opening it, a wait on it and the end
of the operation leave, and with that `PROBE` and `DETECT` (R265 to R268). -/

namespace Sys2Proof.Machine

/-! ## What the trace tells -/

@[simp] theorem setSeq_timeouts (q : SeqState) (s : State) : (s.setSeq q).timeouts = s.timeouts := by
  simp [State.timeouts, List.filterMap_append]

@[simp] theorem sendMsg_timeouts (m : Bytes) (s : State) : (s.sendMsg m).timeouts = s.timeouts := by
  simp [State.timeouts, List.filterMap_append]

@[simp] theorem closePort_timeouts (s : State) : s.closePort.timeouts = s.timeouts := by
  unfold State.closePort
  split
  · rfl
  · simp [State.timeouts, List.filterMap_append]

/-! ## Opening the port -/

/-- The state with the channel opened (R261). -/
def State.opened (c : Byte) (s : State) : State := { s with openChan := some c, trace := s.trace ++ [.opened c] }

@[simp] theorem opened_sent (c : Byte) (s : State) : (s.opened c).sent = s.sent := by
  simp [State.opened, State.sent, List.filterMap_append]

@[simp] theorem opened_timeouts (c : Byte) (s : State) : (s.opened c).timeouts = s.timeouts := by
  simp [State.opened, State.timeouts, List.filterMap_append]

theorem openPort_of_some {s : State} {c : Byte} {script : List RecvItem} (h : scriptOf c s.channels = some script) :
    openPort c s = .ok () (s.opened c) := by
  simp only [openPort, h]
  rfl

theorem openPort_of_none {s : State} {c : Byte} (h : scriptOf c s.channels = none) :
    openPort c s = .raised ⟨.deviceNotFound, .channel c⟩ s := by
  simp only [openPort, h]

/-- Channel `c` is open, and `script` is what its next `Recv` calls return. -/
structure Listening (c : Byte) (script : List RecvItem) (s : State) : Prop where
  openChan : s.openChan = some c
  script : scriptOf c s.channels = some script

theorem Listening.opened {s : State} {c : Byte} {script : List RecvItem} (h : scriptOf c s.channels = some script) :
    Listening c script (s.opened c) := ⟨rfl, h⟩

/-! ## A wait on the port -/

/-- The state after a wait on channel `c` that took `r` from its script. -/
def State.heard (c : Byte) (t : TimeoutClass) (r : RecvRun) (s : State) : State :=
  { s with channels := setScript c r.rest s.channels, trace := s.trace ++ r.seen.map (.recv t) }

section Heard

variable (c : Byte) (t : TimeoutClass) (r : RecvRun) (s : State)

@[simp] theorem heard_sent : (s.heard c t r).sent = s.sent := by
  simp [State.heard, State.sent, List.filterMap_append, List.filterMap_map]

/-- Every `Recv` of a wait has the wait's class (spec/60_exceptions.md R330). -/
@[simp] theorem heard_timeouts : (s.heard c t r).timeouts = s.timeouts ++ List.replicate r.seen.length t := by
  simp [State.heard, State.timeouts, List.filterMap_append, List.filterMap_map]

end Heard

section Listening

variable {s : State} {c : Byte} {script : List RecvItem}

theorem Listening.receive (h : Listening c script s) (t : TimeoutClass) (skip : Bytes → Bool) :
    s.receive t skip =
      ((recvUntil skip .outside script).msg, s.heard c t (recvUntil skip .outside script)) :=
  receive_open t skip h.openChan h.script

theorem Listening.heard (h : Listening c script s) (t : TimeoutClass) (r : RecvRun) :
    Listening c r.rest (s.heard c t r) where
  openChan := h.openChan
  script := scriptOf_setScript_self c r.rest s.channels (by simp [h.script])

end Listening

/-! ## The end of a channel operation -/

/-- `t` is the end of a channel operation that answered `o` at `s` (R305, spec/10_state.md R20). -/
structure AnswersFrom (s t : State) (o : Output) : Prop where
  returned : t.returned o
  events : t.lastEvents = s.dp.events
  dp : t.dp = { s.dp with seq := .done }
  openChan : t.openChan = none
  sent : t.sent = s.sent
  timeouts : t.timeouts = s.timeouts
  channels : t.channels = s.channels

theorem finishChannel_doneWith (o : Output) (s : State) : AnswersFrom s (finishChannel (doneWith o s)) o where
  returned := returned_returnOk _ _
  events := by simp [doneWith, State.lastEvents, Result.ofOutput]
  dp := State.closePort_dp _
  openChan := State.closePort_openChan _
  sent := (closePort_sent _).trans (setSeq_sent _ _)
  timeouts := (closePort_timeouts _).trans (setSeq_timeouts _ _)
  channels := State.closePort_channels _

/-- `t` is the end of a channel operation that raised an error of kind `k` at `s` (spec/60_exceptions.md R314). -/
structure FailsFrom (s t : State) (k : ErrKind) : Prop extends EndsWith t k where
  result : ∀ r, t.result = some r → r.reports = none ∧ r.out = none
  dp : t.dp = { s.dp with seq := .failed }
  sent : t.sent = s.sent
  channels : t.channels = s.channels

theorem finishChannel_raised_failsFrom (e : Err) (s : State) :
    FailsFrom s (finishChannel (.raised e s)) e.kind where
  toEndsWith := finishChannel_raised_endsWith e s
  result := by rintro r ⟨⟩; exact ⟨rfl, rfl⟩
  dp := State.closePort_dp _
  sent := (closePort_sent _).trans (setSeq_sent _ _)
  channels := State.closePort_channels _

/-! ## One probe of a channel -/

theorem withProbeRequest_of_some {s : State} {req : Bytes} (h : s.cfg.probeRequest = some req)
    (run : Bytes → State) : s.withProbeRequest run = run req := by
  simp only [State.withProbeRequest, h]

theorem msgBody_dataBytes {model cmd : Byte} {payload : Bytes} (hmodel : model.toNat < 0x80) (hcmd : cmd.toNat < 0x80)
    (hpayload : ∀ b ∈ payload, b.toNat < 0x80) : ∀ b ∈ msgBody model cmd payload, b.toNat < 0x80 := by
  simp only [msgBody, List.forall_mem_cons]
  exact ⟨by decide, by decide, by decide, hmodel, hcmd, hpayload⟩

/-- What the wait of a probe takes from a script. -/
def probeHears (req : Bytes) (script : List RecvItem) : RecvRun := recvUntil (probeSkips req) .outside script

/-- Echoes of the request and foreign messages are discarded (R265). -/
theorem discards_probeEcho {req : Bytes} {bodies : List Bytes} (h : ∀ body ∈ bodies, probeEcho req body) :
    Discards (probeSkips req) bodies := by
  intro body hbody
  obtain ⟨hdata, hecho⟩ := h body hbody
  refine ⟨hdata, ?_⟩
  obtain rfl | hforeign := hecho
  · simp [probeSkips]
  · simp [probeSkips, mt (isMfr_iff _).mp hforeign]

/-- A message that answers the request `req`, with the bytes it puts on a script after echoes and foreign messages. -/
structure ProbeAnswer (req : Bytes) (bodies : List Bytes) (model cmd : Byte) (payload : Bytes) : Prop where
  echoes : ∀ body ∈ bodies, probeEcho req body
  modelByte : model.toNat < 0x80
  cmdByte : cmd.toNat < 0x80
  dataBytes : ∀ b ∈ payload, b.toNat < 0x80
  other : messageBytes model cmd payload ≠ req

/-- The first message that is neither an echo nor foreign ends the wait (R265, R266). -/
theorem ProbeAnswer.hears {req : Bytes} {bodies : List Bytes} {model cmd : Byte} {payload : Bytes}
    (h : ProbeAnswer req bodies model cmd payload) (rest : List RecvItem) :
    probeHears req ((framedBytes bodies ++ messageBytes model cmd payload).map .byte ++ rest) =
      ⟨some (messageBytes model cmd payload), rest,
        (framedBytes bodies ++ messageBytes model cmd payload).map .byte⟩ := by
  have hskip : probeSkips req (messageBytes model cmd payload) = false :=
    Bool.eq_false_iff.mpr (mt (probeSkips_messageBytes req model cmd payload).mp h.other)
  exact recvUntil_answered (discards_probeEcho h.echoes) (msgBody_dataBytes h.modelByte h.cmdByte h.dataBytes) hskip
    rest

/-- The state after one probe of channel `c`, in which the wait took `r` (R265). -/
def State.probed (req : Bytes) (c : Byte) (r : RecvRun) (s : State) : State :=
  (((s.opened c).setSeq .probeWait).sendMsg req).heard c .short r

@[simp] theorem probed_sent (req : Bytes) (c : Byte) (r : RecvRun) (s : State) :
    (s.probed req c r).sent = s.sent ++ req := by
  rw [State.probed, heard_sent, sendMsg_sent, setSeq_sent, opened_sent]

section ProbeRun

variable {s : State} {req : Bytes} {c : Byte} {script : List RecvItem}

theorem probeRun_of_answer (hscript : scriptOf c s.channels = some script) {m : Bytes}
    (hmsg : (probeHears req script).msg = some m) :
    probeRun req c s = .ok () (s.probed req c (probeHears req script)) := by
  have hport : Listening c script (((s.opened c).setSeq .probeWait).sendMsg req) := ⟨rfl, hscript⟩
  rw [probeRun, openPort_of_some hscript, Run.andThen_ok, hport.receive, show (recvUntil _ _ _).msg = some m from hmsg]
  rfl

theorem probeRun_of_silence (hscript : scriptOf c s.channels = some script)
    (hmsg : (probeHears req script).msg = none) :
    probeRun req c s = .raised ⟨.deviceNotFound, .channel c⟩ (s.probed req c (probeHears req script)) := by
  have hport : Listening c script (((s.opened c).setSeq .probeWait).sendMsg req) := ⟨rfl, hscript⟩
  rw [probeRun, openPort_of_some hscript, Run.andThen_ok, hport.receive, show (recvUntil _ _ _).msg = none from hmsg]
  rfl

theorem probeRun_of_unopenable (h : scriptOf c s.channels = none) :
    probeRun req c s = .raised ⟨.deviceNotFound, .channel c⟩ s := by
  rw [probeRun, openPort_of_none h, Run.andThen_raised]

/-- What a probe leaves of the scripts: of its channel what the wait left, of every other all. -/
theorem probed_scripts (hscript : scriptOf c s.channels = some script) (r : RecvRun) :
    scriptOf c (s.probed req c r).channels = some r.rest ∧
      ∀ d, d ≠ c → scriptOf d (s.probed req c r).channels = scriptOf d s.channels :=
  ⟨scriptOf_setScript_self c r.rest s.channels (by simp [hscript]),
    fun _ hd => scriptOf_setScript_other r.rest s.channels hd⟩

end ProbeRun

/-! ## `PROBE` -/

theorem exec_probe {s : State} {req : Bytes} (hreq : s.cfg.probeRequest = some req) (chan : Byte) :
    exec (.probe chan) s =
      .next (finishChannel ((probeRun req chan (s.latch (latched (.probe chan))).begin).andThen
        fun _ s => doneWith (Output.ofDevice chan) s)) :=
  congrArg Host.Outcome.next (withProbeRequest_of_some (s := s.latch (latched (.probe chan))) hreq _)

/-- `PROBE` of a channel on which the wait hears an answer. -/
theorem exec_probe_of_answer {s : State} {req : Bytes} {chan : Byte} {script : List RecvItem} {m : Bytes}
    (hreq : s.cfg.probeRequest = some req) (hscript : scriptOf chan s.channels = some script)
    (hmsg : (probeHears req script).msg = some m) :
    ∃ t, exec (.probe chan) s = .next t ∧
      AnswersFrom ((s.latch (latched (.probe chan))).begin.probed req chan (probeHears req script)) t
        (Output.ofDevice chan) := by
  refine ⟨_, exec_probe hreq chan, ?_⟩
  rw [probeRun_of_answer (s := (s.latch (latched (.probe chan))).begin) hscript hmsg]
  exact finishChannel_doneWith _ _

/-- `PROBE` of a channel on which the wait hears none. -/
theorem exec_probe_of_silence {s : State} {req : Bytes} {chan : Byte} {script : List RecvItem}
    (hreq : s.cfg.probeRequest = some req) (hscript : scriptOf chan s.channels = some script)
    (hmsg : (probeHears req script).msg = none) :
    ∃ t, exec (.probe chan) s = .next t ∧
      FailsFrom ((s.latch (latched (.probe chan))).begin.probed req chan (probeHears req script)) t
        .deviceNotFound := by
  refine ⟨_, exec_probe hreq chan, ?_⟩
  rw [probeRun_of_silence (s := (s.latch (latched (.probe chan))).begin) hscript hmsg]
  exact finishChannel_raised_failsFrom _ _

/-- Settles O39: the wait discards the echoes and the foreign messages, and the answer or the silence after them ends
it. -/
theorem probeFindsDevice : Obligations.ProbeFindsDevice := by
  refine ⟨isMfr_iff, fun s req chan bodies hreq hbodies => ⟨?_, ?_⟩⟩
  · intro model cmd payload rest hmodel hcmd hpayload hother hscript
    have hhears := ProbeAnswer.hears ⟨hbodies, hmodel, hcmd, hpayload, hother⟩ rest
    obtain ⟨t, ht, hend⟩ := exec_probe_of_answer hreq hscript (congrArg RecvRun.msg hhears)
    rw [hhears] at hend
    obtain ⟨hself, hothers⟩ := probed_scripts (req := req) (s := (s.latch (latched (.probe chan))).begin) hscript _
    exact ⟨t, ht, hend.returned, hend.dp, hend.openChan, hend.sent.trans (probed_sent _ _ _ _), par_of_exec ht,
      (congrArg (scriptOf chan) hend.channels).trans hself,
      fun d hd => (congrArg (scriptOf d) hend.channels).trans (hothers d hd)⟩
  · intro after hafter hscript
    have hhears : probeHears req ((framedBytes bodies).map .byte ++ after) = _ :=
      recvUntil_silent (discards_probeEcho hbodies) hafter
    obtain ⟨t, ht, hend⟩ := exec_probe_of_silence hreq hscript (congrArg RecvRun.msg hhears)
    rw [hhears] at hend
    obtain ⟨hself, hothers⟩ := probed_scripts (req := req) (s := (s.latch (latched (.probe chan))).begin) hscript _
    exact ⟨t, ht, hend.errKind, hend.dp, hend.openChan, hend.sent.trans (probed_sent _ _ _ _), par_of_exec ht,
      (congrArg (scriptOf chan) hend.channels).trans hself,
      fun d hd => (congrArg (scriptOf d) hend.channels).trans (hothers d hd)⟩

/-! ## `DETECT` -/

theorem exec_detect {s : State} {req : Bytes} (hreq : s.cfg.probeRequest = some req) (cands : Bytes) :
    exec (.detect cands) s =
      .next (finishChannel (detectFrom req cands (s.latch (latched (.detect cands))).begin)) :=
  congrArg Host.Outcome.next (withProbeRequest_of_some (s := s.latch (latched (.detect cands))) hreq _)

/-- On a silent script a probe hears nothing, and what it leaves is silent. -/
theorem probeHears_of_silentScript {req : Bytes} {script : List RecvItem} (h : silentScript req script) :
    (probeHears req script).msg = none ∧ silentScript req (probeHears req script).rest := by
  obtain ⟨chunks, last, hechoes, rfl⟩ := h
  cases chunks with
  | nil =>
    have hheard := recvUntil_silent (discards_probeEcho (hechoes last List.mem_cons_self)) (.inl rfl)
    rw [List.append_nil] at hheard
    have hrest : (probeHears req ((framedBytes last).map .byte)).rest = [] := congrArg RecvRun.rest hheard
    refine ⟨congrArg RecvRun.msg hheard, ?_⟩
    exact ⟨[], [], by simp, hrest⟩
  | cons bodies chunks =>
    obtain ⟨hlast, hbodies, hchunks⟩ := by simpa only [List.forall_mem_cons] using hechoes
    have hheard := recvUntil_silent (discards_probeEcho hbodies) (.inr rfl : Silent (.noData ::
      ((chunks.map fun bodies => (framedBytes bodies).map .byte ++ [RecvItem.noData]).flatten ++
        (framedBytes last).map .byte)))
    simp only [List.map_cons, List.flatten_cons, List.append_assoc, List.cons_append, List.nil_append]
    exact ⟨congrArg RecvRun.msg hheard, chunks, last, List.forall_mem_cons.mpr ⟨hlast, hchunks⟩,
      congrArg RecvRun.rest hheard⟩

/-- The requests that candidates are sent: one for each that opens. -/
def asked (req : Bytes) (chans : List Channel) (cands : Bytes) : Bytes :=
  ((cands.filter fun c => (scriptOf c chans).isSome).map fun _ => req).flatten

/-- `DETECT` passed over the candidates `silent` on its way from `s` to `u`. -/
structure PassesOver (req silent : Bytes) (s u : State) : Prop where
  detect : ∀ later, detectFrom req (silent ++ later) s = detectFrom req later u
  sent : u.sent = s.sent ++ asked req s.channels silent
  dp : u.dp = { s.dp with seq := u.dp.seq }
  opens : ∀ c, (scriptOf c u.channels).isSome = (scriptOf c s.channels).isSome
  others : ∀ c, c ∉ silent → scriptOf c u.channels = scriptOf c s.channels
  silent : ∀ c ∈ silent, ∀ script, scriptOf c u.channels = some script → silentScript req script

section PassesOver

variable {req : Bytes} {s t u : State} {c : Byte} {silent : Bytes}

theorem asked_congr (h : ∀ c, (scriptOf c t.channels).isSome = (scriptOf c s.channels).isSome) (cands : Bytes) :
    asked req t.channels cands = asked req s.channels cands := by
  simp only [asked, h]

theorem asked_cons (chans : List Channel) (cands : Bytes) :
    asked req chans (c :: cands) = asked req chans [c] ++ asked req chans cands := by
  simp only [asked, List.filter_cons, List.filter_nil]
  split <;> simp

theorem PassesOver.cons (h : PassesOver req [c] s t) (k : PassesOver req silent t u) :
    PassesOver req (c :: silent) s u where
  detect later := (h.detect (silent ++ later)).trans (k.detect later)
  sent := by rw [k.sent, h.sent, asked_congr h.opens, List.append_assoc, ← asked_cons]
  dp := by rw [k.dp, h.dp]
  opens d := (k.opens d).trans (h.opens d)
  others d hd :=
    have hd' : d ≠ c ∧ d ∉ silent := by simpa using hd
    (k.others d hd'.2).trans (h.others d (by simpa using hd'.1))
  silent d hd script hscript := by
    by_cases hmem : d ∈ silent
    · exact k.silent d hmem script hscript
    · have hdc : d = c := (List.mem_cons.mp hd).resolve_right hmem
      rw [k.others d hmem] at hscript
      exact h.silent d (List.mem_singleton.mpr hdc) script hscript

/-- A candidate that does not open is passed over. -/
theorem passesOver_unopenable (h : scriptOf c s.channels = none) : PassesOver req [c] s s.closePort where
  detect later := by
    rw [List.singleton_append, detectFrom, probeRun_of_unopenable h]
  sent := by simp [asked, h]
  dp := by rw [State.closePort_dp]
  opens d := by rw [State.closePort_channels]
  others d _ := by rw [State.closePort_channels]
  silent d hd script hscript := by
    rw [List.mem_singleton.mp hd, State.closePort_channels, h] at hscript
    cases hscript

/-- A candidate whose script is silent is passed over, once it was asked. -/
theorem passesOver_silentScript {script : List RecvItem} (h : scriptOf c s.channels = some script)
    (hsilent : silentScript req script) :
    PassesOver req [c] s (s.probed req c (probeHears req script)).closePort := by
  obtain ⟨hmsg, hrest⟩ := probeHears_of_silentScript hsilent
  obtain ⟨hself, hothers⟩ := probed_scripts (req := req) h (probeHears req script)
  refine ⟨fun later => ?_, ?_, ?_, fun d => ?_, fun d hd => ?_, fun d hd script' hscript => ?_⟩
  · rw [List.singleton_append, detectFrom, probeRun_of_silence h hmsg]
  · simp [asked, h]
  · rw [State.closePort_dp]
    rfl
  · rw [State.closePort_channels]
    by_cases hd : d = c
    · rw [hd, hself, h]
      rfl
    · rw [hothers d hd]
  · rw [State.closePort_channels, hothers d (by simpa using hd)]
  · rw [List.mem_singleton.mp hd, State.closePort_channels, hself] at hscript
    cases hscript
    exact hrest

/-- All the silent candidates are passed over, one that is tried again too. -/
theorem exists_passesOver (silent : Bytes) (s : State)
    (h : ∀ c ∈ silent, ∀ script, scriptOf c s.channels = some script → silentScript req script) :
    ∃ u, PassesOver req silent s u := by
  induction silent generalizing s with
  | nil => exact ⟨s, fun _ => rfl, (List.append_nil _).symm, rfl, fun _ => rfl, fun _ _ => rfl, by simp⟩
  | cons c silent ih =>
    obtain ⟨hc, hsilent⟩ := List.forall_mem_cons.mp h
    obtain ⟨t, ht⟩ : ∃ t, PassesOver req [c] s t := by
      cases hopen : scriptOf c s.channels with
      | none => exact ⟨_, passesOver_unopenable hopen⟩
      | some script => exact ⟨_, passesOver_silentScript hopen (hc script hopen)⟩
    have hstill : ∀ d ∈ silent, ∀ script, scriptOf d t.channels = some script → silentScript req script := by
      intro d hd script hscript
      by_cases hdc : d = c
      · exact ht.silent d (List.mem_singleton.mpr hdc) script hscript
      · exact hsilent d hd script ((ht.others d (by simpa using hdc)).symm.trans hscript)
    obtain ⟨u, hu⟩ := ih t hstill
    exact ⟨u, ht.cons hu⟩

end PassesOver

/-- `DETECT` whose first candidate to answer is `chan`. -/
theorem exec_detect_of_answer {s u : State} {req silent later : Bytes} {chan : Byte} {script : List RecvItem}
    {m : Bytes} (hreq : s.cfg.probeRequest = some req)
    (hu : PassesOver req silent (s.latch (latched (.detect (silent ++ chan :: later)))).begin u)
    (hscript : scriptOf chan u.channels = some script) (hmsg : (probeHears req script).msg = some m) :
    ∃ t, exec (.detect (silent ++ chan :: later)) s = .next t ∧
      AnswersFrom (u.probed req chan (probeHears req script)) t (Output.ofDevice chan) := by
  refine ⟨_, exec_detect hreq _, ?_⟩
  rw [hu.detect, detectFrom, probeRun_of_answer hscript hmsg]
  exact finishChannel_doneWith _ _

/-- Settles O40: the silent candidates are passed over one by one; the first that answers is none of them, and ends
`DETECT`. -/
theorem detectTakesFirstAnswer : Obligations.DetectTakesFirstAnswer := by
  intro s req silent hreq hsilent
  constructor
  · obtain ⟨u, hu⟩ := exists_passesOver silent (s.latch (latched (.detect silent))).begin hsilent
    have hall := hu.detect []
    rw [List.append_nil, detectFrom] at hall
    have hexec := exec_detect hreq silent
    rw [hall] at hexec
    have hend := finishChannel_raised_failsFrom ⟨.deviceNotFound, .none⟩ u
    exact ⟨_, hexec, hend.errKind, hend.seq, hend.sent.trans hu.sent⟩
  · intro chan model cmd bodies payload later rest hbodies hmodel hcmd hpayload hother hscript
    have hhears := ProbeAnswer.hears ⟨hbodies, hmodel, hcmd, hpayload, hother⟩ rest
    have hnew : chan ∉ silent := fun hmem => by
      have hnone := (probeHears_of_silentScript (hsilent chan hmem _ hscript)).1
      rw [hhears] at hnone
      cases hnone
    obtain ⟨u, hu⟩ := exists_passesOver silent (s.latch (latched (.detect (silent ++ chan :: later)))).begin hsilent
    have hscript' := (hu.others chan hnew).trans hscript
    obtain ⟨t, ht, hend⟩ := exec_detect_of_answer hreq hu hscript' (congrArg RecvRun.msg hhears)
    rw [hhears] at hend
    obtain ⟨hself, hothers⟩ := probed_scripts (req := req) hscript' _
    refine ⟨t, ht, hend.returned, hend.dp.trans ?_, hend.openChan,
      (congrArg (scriptOf chan) hend.channels).trans hself, ?_, fun d hd => ?_⟩
    · exact congrArg (fun dp : Datapath => { dp with seq := .done }) hu.dp
    · exact hend.sent.trans ((probed_sent _ _ _ _).trans (congrArg (· ++ req) hu.sent))
    · have hd' : d ≠ chan ∧ d ∉ silent := by simpa using hd
      exact (congrArg (scriptOf d) hend.channels).trans ((hothers d hd'.1).trans (hu.others d hd'.2))

end Sys2Proof.Machine
end

section
/-! The wait of a transfer (spec/45_device_channel.md R276, R292): it discards echoes and checks the first message after
them. `UPLOAD` and `RETRIEVE` wait alike, each with its own echoes and checks. -/

namespace Sys2Proof.Machine

/-! ## The class of a message -/

/-- The class of a message is its command, if it is manufacturer-matching (R264). -/
theorem classify_eq_some_iff (m : Bytes) (c : Byte) : classify m = some c ↔ mfrMessage m ∧ byteAt m 5 = c := by
  rw [← isMfr_iff, classify]
  split
  · next h => simp [h]
  · next h => simp [h]

/-- The class of a foreign message (R264). -/
theorem classify_of_foreign {m : Bytes} (h : ¬mfrMessage m) : classify m = none := if_neg (mt (isMfr_iff m).mp h)

theorem classify_messageBytes_ne {cmd c : Byte} (h : cmd ≠ c) (model : Byte) (payload : Bytes) :
    classify (framedMsg (msgBody model cmd payload)) ≠ some c := by
  rw [framedMsg_msgBody, classify_messageBytes]
  exact fun hsome => h (Option.some.inj hsome)

theorem classify_foreign_ne {m : Bytes} (h : ¬mfrMessage m) (c : Byte) : classify m ≠ some c := by
  rw [classify_of_foreign h]
  exact fun hsome => nomatch hsome

/-! ## Echoes -/

theorem map_messageBytes (model cmd : Byte) (payloads : List Bytes) :
    (payloads.map (messageBytes model cmd)).flatten = framedBytes (payloads.map (msgBody model cmd)) := by
  rw [framedBytes, List.map_map]
  rfl

/-- Messages of a command that a wait discards. -/
theorem discards_messageBytes {skip : Bytes → Bool} {model cmd : Byte} (hmodel : model.toNat < 0x80)
    (hcmd : cmd.toNat < 0x80) (hskip : ∀ payload, skip (messageBytes model cmd payload) = true) {payloads : List Bytes}
    (h : ∀ b ∈ payloads.flatten, b.toNat < 0x80) : Discards skip (payloads.map (msgBody model cmd)) :=
  List.forall_mem_map.mpr fun payload hpayload =>
    ⟨msgBody_dataBytes hmodel hcmd fun b hb => h b (List.mem_flatten_of_mem hpayload hb), hskip payload⟩

/-! ## What a part of a transfer does on the port -/

/-- From `s` to `t`, a transfer on channel `c` sent `out` and read the port with `classes` down to the script `rest`. -/
structure Talks (c : Byte) (out : Bytes) (classes : List TimeoutClass) (rest : List RecvItem) (s t : State) : Prop where
  cfg : t.cfg = s.cfg
  port : Listening c rest t
  sent : t.sent = s.sent ++ out
  timeouts : t.timeouts = s.timeouts ++ classes

section Talks

variable {c : Byte} {s t u : State} {rest rest' : List RecvItem}

theorem Talks.refl (h : Listening c rest s) : Talks c [] [] rest s s :=
  ⟨rfl, h, (List.append_nil _).symm, (List.append_nil _).symm⟩

theorem Talks.trans {out out' : Bytes} {cl cl' : List TimeoutClass} (h : Talks c out cl rest s t)
    (k : Talks c out' cl' rest' t u) : Talks c (out ++ out') (cl ++ cl') rest' s u where
  cfg := k.cfg.trans h.cfg
  port := k.port
  sent := by rw [k.sent, h.sent, List.append_assoc]
  timeouts := by rw [k.timeouts, h.timeouts, List.append_assoc]

theorem heard_talks {script : List RecvItem} (h : Listening c script s) (t : TimeoutClass) (r : RecvRun) :
    Talks c [] (List.replicate r.seen.length t) r.rest s (s.heard c t r) :=
  ⟨rfl, h.heard t r, (heard_sent c t r s).trans (List.append_nil _).symm, heard_timeouts c t r s⟩

end Talks

/-- The part of an operation that runs at `s` raises an error of kind `k`, and has sent nothing since `s`. -/
def Run.RaisesAt {α : Type} (k : ErrKind) (s : State) (r : Run α) : Prop :=
  ∃ info t, r = .raised ⟨k, info⟩ t ∧ t.sent = s.sent

/-! ## The wait -/

/-- A wait that discards what `skip` says and checks the first other message by `accept`; silence is `ProtocolTimeout`
(R276, R292). -/
def waitOn {α : Type} (skip : Bytes → Bool) (accept : Bytes → State → Run α) (t : TimeoutClass) (s : State) : Run α :=
  match s.receive t skip with
  | (none, s) => .raised ⟨.protocolTimeout, .none⟩ s
  | (some m, s) => accept m s

theorem waitAck_eq_waitOn (key : Vector Byte 13) (t : TimeoutClass) (s : State) :
    waitAck key t s = waitOn ackSkips (acceptAck key) t s := rfl

theorem waitPage_eq_waitOn (key : Vector Byte 13) (pidx : Half) (t : TimeoutClass) (s : State) :
    waitPage key pidx t s = waitOn pageSkips (acceptReply key pidx) t s := rfl

/-- A message that a wait takes, and whose checks raise an error of kind `k` under the configuration `cfg`. -/
structure Rejected {α : Type} (skip : Bytes → Bool) (accept : Bytes → State → Run α) (cfg : ConfigRegs) (k : ErrKind)
    (body : Bytes) : Prop where
  data : ∀ b ∈ body, b.toNat < 0x80
  taken : skip (framedMsg body) = false
  rejects : ∀ s : State, s.cfg = cfg → (accept (framedMsg body) s).RaisesAt k s

/-- A script whose front ends a wait with an error of kind `k`: silence, or a message that is rejected. -/
def BadAnswer {α : Type} (skip : Bytes → Bool) (accept : Bytes → State → Run α) (cfg : ConfigRegs)
    (answer : List RecvItem) (k : ErrKind) : Prop :=
  (k = .protocolTimeout ∧ Silent answer) ∨
    ∃ body rest, answer = (framedMsg body).map .byte ++ rest ∧ Rejected skip accept cfg k body

section WaitOn

variable {α : Type} {skip : Bytes → Bool} {accept : Bytes → State → Run α} {c : Byte} {bodies : List Bytes} {s : State}

/-- The first message that is not discarded is the one that is checked. -/
theorem waitOn_of_answer (hdiscards : Discards skip bodies) {body : Bytes} (hbody : ∀ b ∈ body, b.toNat < 0x80)
    (htaken : skip (framedMsg body) = false) {rest : List RecvItem}
    (h : Listening c ((framedBytes bodies ++ framedMsg body).map .byte ++ rest) s) (t : TimeoutClass) :
    ∃ u, waitOn skip accept t s = accept (framedMsg body) u ∧
      Talks c [] (List.replicate (framedBytes bodies ++ framedMsg body).length t) rest s u ∧
      u.dp = s.dp ∧ u.outBuf = s.outBuf := by
  have hheard := heard_talks h t ⟨some (framedMsg body), rest, (framedBytes bodies ++ framedMsg body).map .byte⟩
  rw [List.length_map] at hheard
  exact ⟨_, by rw [waitOn, h.receive, recvUntil_answered hdiscards hbody htaken], hheard, rfl, rfl⟩

theorem waitOn_of_silence (hdiscards : Discards skip bodies) {script : List RecvItem} (hsilent : Silent script)
    (h : Listening c ((framedBytes bodies).map .byte ++ script) s) (t : TimeoutClass) :
    (waitOn skip accept t s).RaisesAt .protocolTimeout s := by
  refine ⟨.none, _, ?_, heard_sent c t ⟨none, script.drop 1, (framedBytes bodies).map .byte ++ [.noData]⟩ s⟩
  rw [waitOn, h.receive, recvUntil_silent hdiscards hsilent]

/-- A bad answer ends the wait with its error, after what is discarded. -/
theorem waitOn_raises (hdiscards : Discards skip bodies) {answer : List RecvItem} {k : ErrKind}
    (hbad : BadAnswer skip accept s.cfg answer k)
    (h : Listening c ((framedBytes bodies).map .byte ++ answer) s) (t : TimeoutClass) :
    (waitOn skip accept t s).RaisesAt k s := by
  obtain ⟨rfl, hsilent⟩ | ⟨body, rest, rfl, hrejected⟩ := hbad
  · exact waitOn_of_silence hdiscards hsilent h t
  · rw [← List.append_assoc, ← List.map_append] at h
    obtain ⟨u, hu, htalks, -⟩ := waitOn_of_answer (accept := accept) hdiscards hrejected.data hrejected.taken h t
    obtain ⟨info, v, hv, hsent⟩ := hrejected.rejects u htalks.cfg
    exact ⟨info, v, hu.trans hv, hsent.trans (htalks.sent.trans (List.append_nil _))⟩

end WaitOn

end Sys2Proof.Machine
end

section
/-! `UPLOAD` (spec/45_device_channel.md R270 to R278): which messages end a sector, the answers to one, and what stands
on the port and in the registers after any number of acknowledged sectors. -/

namespace Sys2Proof.Machine

/-! ## Which messages end a sector -/

theorem payloadOf_length (m : Bytes) : (payloadOf m).length = m.length - 7 := by
  rw [payloadOf, List.length_dropLast, List.length_drop, Nat.sub_sub]

/-- The payload of a message of a page's length. -/
theorem payloadOf_of_length {m : Bytes} (h : m.length = 7 + 296) : payloadOf m = (m.drop 6).take 296 := by
  rw [payloadOf, List.dropLast_eq_take, List.length_drop, h]

/-- The low nibble of a page index, as the model takes it. -/
theorem extract_nibble_iff (v : Half) : v.extractLsb' 0 4 = 0xF#4 ↔ v.toNat % 16 = 15 := by
  rw [← BitVec.toNat_inj, BitVec.extractLsb'_toNat]
  rfl

/-- The low nibble of a page index, as R272 writes it. -/
theorem and_nibble_iff (v : Half) : v &&& 0x000F = 0x000F#16 ↔ v.toNat % 16 = 15 := by
  rw [← BitVec.toNat_inj, BitVec.toNat_and]
  exact Eq.congr_left (Nat.and_two_pow_sub_one_eq_mod v.toNat 4)

/-- The trigger of a wait is a message that ends a sector in the words of R272. -/
theorem ackTrigger_iff (key : Vector Byte 13) (m : Bytes) : ackTrigger key m = true ↔ endsSector key m := by
  have hlength : (payloadOf m).length = 296 ↔ m.length = 7 + 296 := by
    rw [payloadOf_length]
    omega
  unfold ackTrigger isPageWrite endsSector
  rw [Bool.and_eq_true, Bool.and_eq_true, beq_iff_eq, beq_iff_eq, beq_iff_eq, classify_eq_some_iff, extract_nibble_iff,
    and_assoc, and_assoc]
  refine and_congr_right fun _ => and_congr_right fun _ => ?_
  refine (and_congr_left' hlength).trans (and_congr_right fun hm => ?_)
  rw [payloadOf_of_length hm, and_nibble_iff]
  rfl

/-- A sector's sixteenth page ends it. -/
theorem ackTrigger_pagePayload (order : Config.BitOrder) (key : Vector Byte 13) {pidx : Half} {data : Bytes}
    (hdata : data.length = 256) (hpidx : pidx.toNat % 16 = 15) (model : Byte) :
    ackTrigger key (messageBytes model 0x34 (pagePayload order key pidx data)) = true := by
  have hwrite : isPageWrite (messageBytes model 0x34 (pagePayload order key pidx data)) = true := by
    simp [isPageWrite, pagePayload_length _ _ _ hdata, Config.cmdWrite]
  rw [ackTrigger, hwrite, payloadOf_messageBytes, plainOf_pagePayload _ _ _ hdata, pidxOf_pagePlain,
    (extract_nibble_iff pidx).mpr hpidx]
  rfl

/-! ## What a part of `UPLOAD` does -/

/-- From `s` to `t`, `UPLOAD` sent `out` and nothing else on the port changed; of the datapath only `SEQ` and `TKI`. -/
structure Sends (out : Bytes) (s t : State) : Prop where
  cfg : t.cfg = s.cfg
  channels : t.channels = s.channels
  openChan : t.openChan = s.openChan
  sent : t.sent = s.sent ++ out
  timeouts : t.timeouts = s.timeouts
  dp : t.dp = { s.dp with seq := t.dp.seq, tki := t.dp.tki }

theorem Sends.trans {out out' : Bytes} {s t u : State} (h : Sends out s t) (k : Sends out' t u) :
    Sends (out ++ out') s u where
  cfg := k.cfg.trans h.cfg
  channels := k.channels.trans h.channels
  openChan := k.openChan.trans h.openChan
  sent := by rw [k.sent, h.sent, List.append_assoc]
  timeouts := k.timeouts.trans h.timeouts
  dp := by rw [k.dp, h.dp]

/-- A part of `UPLOAD` that talks on the port and makes `reports`; of the datapath only `SEQ` and `TKI` change
beside. -/
structure Uploads (c : Byte) (out : Bytes) (classes : List TimeoutClass) (reports : List Report) (rest : List RecvItem)
    (s t : State) : Prop extends Talks c out classes rest s t where
  dp : t.dp = { s.dp with seq := t.dp.seq, tki := t.dp.tki, reports := s.dp.reports ++ reports }

section Uploads

variable {c : Byte} {s t u : State} {rest rest' : List RecvItem}

/-- A part that makes no report. -/
theorem Talks.uploads {out : Bytes} {cl : List TimeoutClass} (h : Talks c out cl rest s t)
    (hdp : t.dp = { s.dp with seq := t.dp.seq, tki := t.dp.tki }) : Uploads c out cl [] rest s t :=
  ⟨h, by rw [List.append_nil]; exact hdp⟩

theorem Uploads.refl (h : Listening c rest s) : Uploads c [] [] [] rest s s := (Talks.refl h).uploads rfl

theorem Uploads.trans {out out' : Bytes} {cl cl' : List TimeoutClass} {rs rs' : List Report}
    (h : Uploads c out cl rs rest s t) (k : Uploads c out' cl' rs' rest' t u) :
    Uploads c (out ++ out') (cl ++ cl') (rs ++ rs') rest' s u :=
  ⟨h.toTalks.trans k.toTalks, by rw [k.dp, h.dp, List.append_assoc]⟩

theorem Sends.uploads {out : Bytes} (h : Sends out s t) (hport : Listening c rest s) : Uploads c out [] [] rest s t :=
  Talks.uploads
    ⟨h.cfg, ⟨h.openChan.trans hport.openChan, by rw [h.channels, hport.script]⟩, h.sent,
      h.timeouts.trans (List.append_nil _).symm⟩
    h.dp

end Uploads

/-! ## The checks of an acknowledgment -/

section AcceptAck

variable {key : Vector Byte 13} {s : State} {m : Bytes}

@[simp] theorem putAck_sent (key : Vector Byte 13) (payload : Bytes) (s : State) :
    (s.putAck key payload).sent = s.sent := by
  unfold State.putAck
  split <;> rfl

theorem acceptAck_of_otherClass (h : classify m ≠ some Config.cmdAck) :
    (acceptAck key m s).RaisesAt .unexpectedResponse s := ⟨_, s, if_pos h, rfl⟩

theorem acceptAck_of_partGroup {payload : Bytes} (h : payload = [] ∨ payload.length % 8 ≠ 0) (model : Byte) :
    (acceptAck key (messageBytes model Config.cmdAck payload) s).RaisesAt .unexpectedResponse s := by
  have hlen : payload.length = 0 ∨ payload.length % 8 ≠ 0 := h.imp_left List.length_eq_zero_iff.mpr
  refine ⟨.check .ackPayload, s, ?_, rfl⟩
  simp only [acceptAck, classify_messageBytes, payloadOf_messageBytes, ne_eq, not_true_eq_false, if_false, if_pos hlen]

/-- The plain payload of an acknowledgment: address, most significant byte first, status, and what follows (R87). -/
def ackFields (addr : Half) (status : Byte) (more : Bytes) : Bytes :=
  [addr.extractLsb' 8 8, addr.extractLsb' 0 8, status] ++ more

/-- The payload that carries it, ciphered or not (R83). -/
def ackPayload (key : Vector Byte 13) (ciphered : Bool) (plain : Bytes) : Bytes :=
  pack (if ciphered then tcipher key plain else plain)

/-- The body of the message. -/
def ackBody (key : Vector Byte 13) (ciphered : Bool) (model : Byte) (addr : Half) (status : Byte) (more : Bytes) :
    Bytes := msgBody model Config.cmdAck (ackPayload key ciphered (ackFields addr status more))

theorem framedMsg_ackBody (key : Vector Byte 13) (ciphered : Bool) (model : Byte) (addr : Half) (status : Byte)
    (more : Bytes) :
    framedMsg (ackBody key ciphered model addr status more) = ackMsg key ciphered model addr status more := rfl

theorem ackBody_lt {model : Byte} (hmodel : model.toNat < 0x80) (key : Vector Byte 13) (ciphered : Bool) (addr : Half)
    (status : Byte) (more : Bytes) : ∀ b ∈ ackBody key ciphered model addr status more, b.toNat < 0x80 :=
  msgBody_dataBytes hmodel (by decide) (pack_lt _)

theorem ackSkips_ackMsg (key : Vector Byte 13) (ciphered : Bool) (model : Byte) (addr : Half) (status : Byte)
    (more : Bytes) : ackSkips (ackMsg key ciphered model addr status more) = false := ackSkips_messageBytes _ _ _

theorem ackPayload_length (key : Vector Byte 13) (ciphered : Bool) (plain : Bytes) :
    (ackPayload key ciphered plain).length = plain.length / 7 * 8 := by
  rw [ackPayload, pack_length]
  cases ciphered with
  | false => rfl
  | true => exact congrArg (· / 7 * 8) (tcipher_length key plain)

/-- Whole groups of a plain payload are read back as `ACK_CIPHERED` says (R83). -/
theorem ackPlain_ackPayload (key : Vector Byte 13) (ciphered : Bool) {plain : Bytes} (h : plain.length % 7 = 0) :
    ackPlain key ciphered (ackPayload key ciphered plain) = plain := by
  cases ciphered with
  | false => exact expand_pack h
  | true => exact plainOf_carry key h

/-- Of an acknowledgment of whole groups, the status alone is checked. -/
theorem acceptAck_of_groups {addr : Half} {status : Byte} {more : Bytes} (h : (3 + more.length) % 7 = 0)
    (model : Byte) :
    acceptAck key (ackMsg key s.cfg.ackCiphered model addr status more) s =
      if 3 < status.toNat then
        .raised ⟨.unexpectedResponse, .check .ackStatus⟩
          (s.putAck key (ackPayload key s.cfg.ackCiphered (ackFields addr status more)))
      else
        .ok ⟨addr, status⟩
          ((s.putAck key (ackPayload key s.cfg.ackCiphered (ackFields addr status more))).setSeq .upSend) := by
  have hlen : (ackFields addr status more).length = 3 + more.length := Nat.add_comm more.length 3
  have hgroups : ¬((ackPayload key s.cfg.ackCiphered (ackFields addr status more)).length = 0 ∨
      (ackPayload key s.cfg.ackCiphered (ackFields addr status more)).length % 8 ≠ 0) := by
    rw [ackPayload_length, hlen]
    omega
  have hplain := ackPlain_ackPayload key s.cfg.ackCiphered (plain := ackFields addr status more) (by rwa [hlen])
  have haddr : pidxOf (ackFields addr status more) = addr := be16_byteOf addr
  rw [← framedMsg_ackBody, ackBody, framedMsg_msgBody]
  simp only [acceptAck, classify_messageBytes, payloadOf_messageBytes, ne_eq, not_true_eq_false, if_false,
    if_neg hgroups, hplain, haddr]
  rfl

/-- An acknowledgment of whole groups with a status of R87 is reported (R276, R277). -/
theorem acceptAck_uploads {addr : Half} {status : Byte} {more : Bytes} (hstatus : status.toNat ≤ 3)
    (hgroups : (3 + more.length) % 7 = 0) {c : Byte} {rest : List RecvItem} (hport : Listening c rest s)
    (model : Byte) :
    ∃ u, acceptAck key (ackMsg key s.cfg.ackCiphered model addr status more) s = .ok ⟨addr, status⟩ u ∧
      Uploads c [] [] [⟨addr, status⟩] rest s (u.addReport ⟨addr, status⟩) := by
  have hsent : (s.setSeq .upSend).sent = s.sent ++ [] := (setSeq_sent .upSend s).trans (List.append_nil _).symm
  have htimeouts : (s.setSeq .upSend).timeouts = s.timeouts ++ [] :=
    (setSeq_timeouts .upSend s).trans (List.append_nil _).symm
  refine ⟨_, (acceptAck_of_groups hgroups model).trans (if_neg (Nat.not_lt.mpr hstatus)), ?_⟩
  unfold State.putAck
  split
  · exact ⟨⟨rfl, ⟨hport.openChan, hport.script⟩, hsent, htimeouts⟩, rfl⟩
  · exact ⟨⟨rfl, ⟨hport.openChan, hport.script⟩, hsent, htimeouts⟩, rfl⟩

end AcceptAck

section RejectedAck

variable {key : Vector Byte 13} {cfg : ConfigRegs} {model : Byte}

/-- A message that is neither an echo nor an acknowledgment (R276). -/
theorem rejectedAck_of_otherClass {body : Bytes} (hdata : ∀ b ∈ body, b.toNat < 0x80)
    (hwrite : classify (framedMsg body) ≠ some Config.cmdWrite)
    (hack : classify (framedMsg body) ≠ some Config.cmdAck) :
    Rejected ackSkips (acceptAck key) cfg .unexpectedResponse body where
  data := hdata
  taken := beq_eq_false_iff_ne.mpr hwrite
  rejects _ _ := acceptAck_of_otherClass hack

theorem rejectedAck_of_partGroup (hmodel : model.toNat < 0x80) {payload : Bytes} (hdata : ∀ b ∈ payload, b.toNat < 0x80)
    (h : payload = [] ∨ payload.length % 8 ≠ 0) :
    Rejected ackSkips (acceptAck key) cfg .unexpectedResponse (msgBody model Config.cmdAck payload) where
  data := msgBody_dataBytes hmodel (by decide) hdata
  taken := ackSkips_messageBytes model Config.cmdAck payload
  rejects _ _ := acceptAck_of_partGroup h model

theorem rejectedAck_of_status (hmodel : model.toNat < 0x80) {addr : Half} {status : Byte} {more : Bytes}
    (hstatus : 3 < status.toNat) (hgroups : (3 + more.length) % 7 = 0) :
    Rejected ackSkips (acceptAck key) cfg .unexpectedResponse
      (ackBody key cfg.ackCiphered model addr status more) where
  data := ackBody_lt hmodel key cfg.ackCiphered addr status more
  taken := ackSkips_ackMsg _ _ _ _ _ _
  rejects s hs := by
    subst hs
    exact ⟨_, _, (acceptAck_of_groups hgroups model).trans (if_pos hstatus), putAck_sent _ _ s⟩

end RejectedAck

/-! ## The message loop -/

/-- The state once a message is sent (R270, R272). -/
def State.uploaded (key : Vector Byte 13) (m : Bytes) (s : State) : State :=
  ((s.setSeq .upSend).sendMsg m).putTrigger key m

theorem uploadFrom_of_trigger {key : Vector Byte 13} {m : Bytes} (h : ackTrigger key m = true) (first : Bool)
    (rest : List Bytes) (s : State) :
    uploadFrom key first (m :: rest) s =
      (waitAck key (waitClass first) ((s.uploaded key m).setSeq .upWaitAck)).andThen fun r s =>
        uploadFrom key false rest (s.addReport r) := if_pos h

theorem uploadFrom_of_not_trigger {key : Vector Byte 13} {m : Bytes} (h : ackTrigger key m = false) (first : Bool)
    (rest : List Bytes) (s : State) :
    uploadFrom key first (m :: rest) s = uploadFrom key first rest (s.uploaded key m) := by
  simp only [uploadFrom, h, Bool.false_eq_true, if_false]
  rfl

theorem uploaded_sends (key : Vector Byte 13) (m : Bytes) (s : State) : Sends m s (s.uploaded key m) := by
  have hsent : ((s.setSeq .upSend).sendMsg m).sent = s.sent ++ m := by simp
  have htimeouts : ((s.setSeq .upSend).sendMsg m).timeouts = s.timeouts := by simp
  unfold State.uploaded State.putTrigger
  split
  · exact ⟨rfl, rfl, rfl, hsent, htimeouts, rfl⟩
  · exact ⟨rfl, rfl, rfl, hsent, htimeouts, rfl⟩

theorem setSeq_sends (q : SeqState) (s : State) : Sends [] s (s.setSeq q) :=
  ⟨rfl, rfl, rfl, (setSeq_sent q s).trans (List.append_nil _).symm, setSeq_timeouts q s, rfl⟩

/-- Messages that end no sector go out one after another (R270). -/
theorem uploadFrom_sends {key : Vector Byte 13} {bodies : List Bytes}
    (h : ∀ body ∈ bodies, ¬endsSector key (framedMsg body)) (s : State) :
    ∃ t, Sends (framedBytes bodies) s t ∧ ∀ first rest,
      uploadFrom key first (bodies.map framedMsg ++ rest) s = uploadFrom key first rest t := by
  induction bodies generalizing s with
  | nil => exact ⟨s, ⟨rfl, rfl, rfl, (List.append_nil _).symm, rfl, rfl⟩, fun _ _ => rfl⟩
  | cons body bodies ih =>
    obtain ⟨hbody, hrest⟩ := List.forall_mem_cons.mp h
    have hno : ackTrigger key (framedMsg body) = false := Bool.eq_false_iff.mpr (mt (ackTrigger_iff _ _).mp hbody)
    obtain ⟨t, ht, hgo⟩ := ih hrest (s.uploaded key (framedMsg body))
    exact ⟨t, (uploaded_sends key _ s).trans ht, fun first rest =>
      (uploadFrom_of_not_trigger hno first _ s).trans (hgo first rest)⟩

/-! ## A sector -/

/-- The bodies of a sector's messages. -/
def SectorExchange.bodies (order : Config.BitOrder) (key : Vector Byte 13) (model : Byte) (x : SectorExchange) :
    List Bytes :=
  x.before ++ [msgBody model 0x34 (pagePayload order key x.pidx x.data)]

theorem SectorExchange.stream_eq (order : Config.BitOrder) (key : Vector Byte 13) (model : Byte) (x : SectorExchange) :
    x.stream order key model = framedBytes (x.bodies order key model) := by
  rw [SectorExchange.bodies, framedBytes_append, framedBytes_singleton]
  rfl

theorem SectorExchange.answer_eq (key : Vector Byte 13) (ciphered : Bool) (model : Byte) (x : SectorExchange) :
    x.answer key ciphered model = framedBytes (x.echoes.map (msgBody model 0x34)) ++
      framedMsg (ackBody key ciphered model x.addr x.status x.more) := by
  rw [SectorExchange.answer, map_messageBytes, framedMsg_ackBody]

/-- The acknowledgment of a sector is reported (R276, R277). -/
theorem waitAck_uploads {key : Vector Byte 13} {c model : Byte} (hmodel : model.toNat < 0x80) {x : SectorExchange}
    (hx : x.sound key) {s : State} {rest : List RecvItem}
    (hport : Listening c ((x.answer key s.cfg.ackCiphered model).map .byte ++ rest) s) (t : TimeoutClass) :
    ∃ u, waitAck key t s = .ok x.report u ∧
      Uploads c [] (List.replicate (x.answer key s.cfg.ackCiphered model).length t) [x.report] rest s
        (u.addReport x.report) := by
  obtain ⟨-, -, -, -, hechoes, hstatus, hgroups⟩ := hx
  rw [x.answer_eq] at hport ⊢
  have hdiscards : Discards ackSkips (x.echoes.map (msgBody model 0x34)) :=
    discards_messageBytes hmodel (by decide) (ackSkips_messageBytes model 0x34) hechoes
  obtain ⟨u, hu, htalks, hdp, -⟩ := waitOn_of_answer (accept := acceptAck key) hdiscards
    (ackBody_lt hmodel _ _ _ _ _) (ackSkips_ackMsg _ _ _ _ _ _) hport t
  obtain ⟨v, hv, hreports⟩ := acceptAck_uploads (key := key) (addr := x.addr) hstatus hgroups htalks.port model
  rw [htalks.cfg] at hv
  refine ⟨v, hu.trans hv, ?_⟩
  have hboth := (htalks.uploads (by rw [hdp])).trans hreports
  rw [List.append_nil, List.append_nil] at hboth
  exact hboth

/-- `UPLOAD` of a sector whose acknowledgment stands on the script goes on with the next (R270, R276, R277). -/
theorem uploadFrom_sector {key : Vector Byte 13} {c model : Byte} (hmodel : model.toNat < 0x80) {x : SectorExchange}
    (hx : x.sound key) (order : Config.BitOrder) {s : State} {rest : List RecvItem}
    (hport : Listening c ((x.answer key s.cfg.ackCiphered model).map .byte ++ rest) s) (first : Bool) :
    ∃ t, Uploads c (x.stream order key model)
        (List.replicate (x.answer key s.cfg.ackCiphered model).length (waitClass first)) [x.report] rest s t ∧
      ∀ msgs, uploadFrom key first ((x.bodies order key model).map framedMsg ++ msgs) s =
        uploadFrom key false msgs t := by
  have ⟨_, hbefore, hdata, hpidx, _⟩ := hx
  have htrigger := ackTrigger_pagePayload order key hdata hpidx model
  obtain ⟨u, hsends, hgo⟩ := uploadFrom_sends hbefore s
  have hpage := uploaded_sends key (messageBytes model 0x34 (pagePayload order key x.pidx x.data)) u
  have hwaiting := ((hsends.trans hpage).trans (setSeq_sends .upWaitAck _)).uploads hport
  obtain ⟨v, hv, hreports⟩ := waitAck_uploads hmodel hx (hwaiting.cfg ▸ hwaiting.port) (waitClass first)
  refine ⟨v.addReport x.report, ?_, fun msgs => ?_⟩
  · have hall := hwaiting.trans hreports
    rw [hwaiting.cfg, List.append_nil, List.append_nil] at hall
    exact hall
  · rw [SectorExchange.bodies, List.map_append, List.append_assoc, hgo, List.map_singleton, List.singleton_append,
      framedMsg_msgBody, uploadFrom_of_trigger htrigger, hv, Run.andThen_ok]

/-! ## Any number of sectors -/

section Sectors

variable {key : Vector Byte 13} {c model : Byte} {rest : List RecvItem}

/-- The bodies of the messages of the sectors. -/
def sectorBodies (order : Config.BitOrder) (key : Vector Byte 13) (model : Byte) (xs : List SectorExchange) :
    List Bytes := (xs.map (·.bodies order key model)).flatten

theorem framedBytes_sectorBodies (order : Config.BitOrder) (key : Vector Byte 13) (model : Byte)
    (xs : List SectorExchange) :
    framedBytes (sectorBodies order key model xs) = (xs.map (·.stream order key model)).flatten := by
  rw [sectorBodies, framedBytes_flatten, List.map_map]
  exact congrArg List.flatten (List.map_congr_left fun x _ => (x.stream_eq order key model).symm)

theorem sectorBodies_lt (hmodel : model.toNat < 0x80) (order : Config.BitOrder) {xs : List SectorExchange}
    (hxs : ∀ x ∈ xs, x.sound key) : ∀ body ∈ sectorBodies order key model xs, ∀ b ∈ body, b.toNat < 0x80 := by
  intro body hbody
  obtain ⟨bodies, hbodies, hmem⟩ := List.mem_flatten.mp hbody
  obtain ⟨x, hx, rfl⟩ := List.mem_map.mp hbodies
  obtain hbefore | hpage := List.mem_append.mp hmem
  · exact fun b hb => (hxs x hx).1 b (List.mem_flatten_of_mem hbefore hb)
  · rw [List.mem_singleton.mp hpage]
    exact msgBody_dataBytes hmodel (by decide) (pagePayload_lt _ _ _ _)

/-- The sectors after the first, all read with `T_SHORT` (spec/60_exceptions.md R330). -/
theorem uploadFrom_laterSectors (hmodel : model.toNat < 0x80) (order : Config.BitOrder) {xs : List SectorExchange}
    (hxs : ∀ x ∈ xs, x.sound key) {s : State}
    (hport : Listening c ((xs.map (·.answer key s.cfg.ackCiphered model)).flatten.map .byte ++ rest) s) :
    ∃ t, Uploads c (xs.map (·.stream order key model)).flatten
        (List.replicate (xs.map (·.answer key s.cfg.ackCiphered model)).flatten.length .short) (xs.map (·.report))
        rest s t ∧
      ∀ msgs, uploadFrom key false ((sectorBodies order key model xs).map framedMsg ++ msgs) s =
        uploadFrom key false msgs t := by
  induction xs generalizing s with
  | nil => exact ⟨s, .refl hport, fun _ => rfl⟩
  | cons x xs ih =>
    obtain ⟨hx, hrest⟩ := List.forall_mem_cons.mp hxs
    rw [List.map_cons, List.flatten_cons, List.map_append, List.append_assoc] at hport
    obtain ⟨t, ht, hgo⟩ := uploadFrom_sector hmodel hx order hport false
    obtain ⟨u, hu, hlater⟩ := ih hrest (ht.cfg ▸ ht.port)
    rw [ht.cfg] at hu
    refine ⟨u, ?_, fun msgs => ?_⟩
    · simp only [List.map_cons, List.flatten_cons, List.length_append, List.replicate_add]
      exact ht.trans hu
    · rw [sectorBodies, List.map_cons, List.flatten_cons, List.map_append, List.append_assoc, hgo]
      exact hlater msgs

/-- All sectors: the first wait reads with `T_LONG` (spec/60_exceptions.md R330). -/
theorem uploadFrom_sectors (hmodel : model.toNat < 0x80) (order : Config.BitOrder) {xs : List SectorExchange}
    (hxs : ∀ x ∈ xs, x.sound key) {s : State}
    (hport : Listening c ((xs.map (·.answer key s.cfg.ackCiphered model)).flatten.map .byte ++ rest) s) :
    ∃ t first, Uploads c (xs.map (·.stream order key model)).flatten
        (waitClasses (xs.map (·.answer key s.cfg.ackCiphered model))) (xs.map (·.report)) rest s t ∧
      ∀ msgs, uploadFrom key true ((sectorBodies order key model xs).map framedMsg ++ msgs) s =
        uploadFrom key first msgs t := by
  cases xs with
  | nil => exact ⟨s, true, .refl hport, fun _ => rfl⟩
  | cons x xs =>
    obtain ⟨hx, hrest⟩ := List.forall_mem_cons.mp hxs
    rw [List.map_cons, List.flatten_cons, List.map_append, List.append_assoc] at hport
    obtain ⟨t, ht, hgo⟩ := uploadFrom_sector hmodel hx order hport true
    obtain ⟨u, hu, hlater⟩ := uploadFrom_laterSectors hmodel order hrest (ht.cfg ▸ ht.port)
    rw [ht.cfg] at hu
    refine ⟨u, false, ht.trans hu, fun msgs => ?_⟩
    rw [sectorBodies, List.map_cons, List.flatten_cons, List.map_append, List.append_assoc, hgo]
    exact hlater msgs

end Sectors

/-! ## The operation -/

/-- The state in which `UPLOAD` of a stream begins to send: the framer is done and the channel open (R270). -/
def State.uploadStart (f : Framing) (chan : Byte) (s : State) : State :=
  (((s.latch (latched (.upload chan))).begin).putFrame f.run).opened chan

section Exec

variable {s : State} {key : Vector Byte 13} {chan : Byte} {f : Framing} {script : List RecvItem}

theorem uploadStart_sent : (s.uploadStart f chan).sent = s.sent := opened_sent _ _

theorem uploadStart_timeouts : (s.uploadStart f chan).timeouts = s.timeouts := opened_timeouts _ _

theorem exec_upload_stream (hkey : s.cfg.transportKey = some key) (hf : f.sound) (hin : s.inBuf = f.stream)
    (hscript : scriptOf chan s.channels = some script) :
    exec (.upload chan) s =
      .next (finishChannel ((uploadFrom key true f.msgs (s.uploadStart f chan)).andThen fun _ t =>
        doneWith ⟨[], none, some t.dp.reports, none⟩ t)) := by
  rw [exec_upload hkey, uploadRun, hin, frameIn_stream hf, Run.andThen_ok,
    openPort_of_some (s := ((s.latch (latched (.upload chan))).begin).putFrame f.run) hscript]
  rfl

/-- `UPLOAD` whose messages all go out. -/
theorem exec_upload_of_ok (hkey : s.cfg.transportKey = some key) (hf : f.sound) (hin : s.inBuf = f.stream)
    (hscript : scriptOf chan s.channels = some script) {u : State}
    (h : uploadFrom key true f.msgs (s.uploadStart f chan) = .ok () u) :
    ∃ t, exec (.upload chan) s = .next t ∧ AnswersFrom u t ⟨[], none, some u.dp.reports, none⟩ := by
  refine ⟨_, exec_upload_stream hkey hf hin hscript, ?_⟩
  rw [h]
  exact finishChannel_doneWith _ u

/-- `UPLOAD` that ends in a wait. -/
theorem exec_upload_of_raised (hkey : s.cfg.transportKey = some key) (hf : f.sound) (hin : s.inBuf = f.stream)
    (hscript : scriptOf chan s.channels = some script) {u : State} {e : Err}
    (h : uploadFrom key true f.msgs (s.uploadStart f chan) = .raised e u) :
    ∃ t, exec (.upload chan) s = .next t ∧ FailsFrom u t e.kind := by
  refine ⟨_, exec_upload_stream hkey hf hin hscript, ?_⟩
  rw [h]
  exact finishChannel_raised_failsFrom e u

end Exec

/-! ## Streams of sectors -/

section SectorStreams

variable {key : Vector Byte 13} {chan model : Byte} {xs : List SectorExchange} {later : List Bytes}

/-- A stream of sectors and of messages after the last. -/
def sectorFraming (order : Config.BitOrder) (key : Vector Byte 13) (model : Byte) (xs : List SectorExchange)
    (later : List Bytes) : Framing := .ofBodies (sectorBodies order key model xs ++ later)

theorem sectorFraming_sound (hmodel : model.toNat < 0x80) (order : Config.BitOrder) (hxs : ∀ x ∈ xs, x.sound key)
    (hlater : ∀ b ∈ later.flatten, b.toNat < 0x80) : (sectorFraming order key model xs later).sound :=
  Framing.ofBodies_sound <| List.forall_mem_append.mpr ⟨sectorBodies_lt hmodel order hxs,
    fun _ hbody b hb => hlater b (List.mem_flatten_of_mem hbody hb)⟩

theorem sectorFraming_stream (order : Config.BitOrder) :
    (sectorFraming order key model xs later).stream =
      (xs.map (·.stream order key model)).flatten ++ framedBytes later := by
  rw [sectorFraming, Framing.ofBodies_stream, framedBytes_append, framedBytes_sectorBodies]

/-- `UPLOAD` of the stream comes to the messages after the last sector. -/
theorem uploadFrom_sectorFraming (hmodel : model.toNat < 0x80) (order : Config.BitOrder) (hxs : ∀ x ∈ xs, x.sound key)
    {s : State} {rest : List RecvItem}
    (hscript : scriptOf chan s.channels =
      some ((xs.map (·.answer key s.cfg.ackCiphered model)).flatten.map .byte ++ rest)) :
    ∃ t first, Uploads chan (xs.map (·.stream order key model)).flatten
        (waitClasses (xs.map (·.answer key s.cfg.ackCiphered model))) (xs.map (·.report)) rest
        (s.uploadStart (sectorFraming order key model xs later) chan) t ∧
      uploadFrom key true (sectorFraming order key model xs later).msgs
          (s.uploadStart (sectorFraming order key model xs later) chan) =
        uploadFrom key first (later.map framedMsg) t := by
  have hport : Listening chan ((xs.map (·.answer key s.cfg.ackCiphered model)).flatten.map .byte ++ rest)
      (s.uploadStart (sectorFraming order key model xs later) chan) := ⟨rfl, hscript⟩
  obtain ⟨t, first, ht, hgo⟩ := uploadFrom_sectors (s := s.uploadStart _ chan) hmodel order hxs hport
  refine ⟨t, first, ht, ?_⟩
  have hmsgs : (sectorFraming order key model xs later).msgs =
      (sectorBodies order key model xs).map framedMsg ++ later.map framedMsg := by
    rw [sectorFraming, Framing.ofBodies_msgs, List.map_append]
  rw [hmsgs]
  exact hgo _

end SectorStreams

/-! ## The statements -/

theorem Framing.eq_ofBodies {f : Framing} (h : f.noStray) : f = Framing.ofBodies f.bodies := by
  obtain ⟨segs, tail⟩ := f
  obtain ⟨hsegs, rfl⟩ := h
  rw [Framing.ofBodies, Framing.bodies, List.map_map]
  congr
  exact (List.map_id segs).symm.trans (List.map_congr_left fun p hp => Prod.ext (hsegs p hp) rfl)

/-- A stream gives no event exactly if it has no stray byte (R211). -/
theorem Framing.events_eq_nil_iff {f : Framing} (hf : f.sound) : f.events = [] ↔ f.noStray := by
  constructor
  · intro h
    obtain ⟨-, -, hclean⟩ | ⟨-, n, hwarn, -⟩ := f.events_cases hf
    · exact hclean
    · cases hwarn.symm.trans h
  · intro h
    rw [f.eq_ofBodies h, Framing.events, show (Framing.ofBodies f.bodies).first = none from firstStray_ofBodies 0 _]
    rfl

/-- Settles O42: the trigger is that of R272, and without one every message goes out. -/
theorem uploadWithoutWait : Obligations.UploadWithoutWait := by
  refine ⟨ackTrigger_iff, fun s key chan f hkey hf hsegs hin hopen => ?_⟩
  obtain ⟨script, hscript⟩ := Option.ne_none_iff_exists'.mp hopen
  have hbodies : ∀ body ∈ f.bodies, ¬endsSector key (framedMsg body) := List.forall_mem_map.mpr hsegs
  obtain ⟨u, hsends, hgo⟩ := uploadFrom_sends hbodies (s.uploadStart f chan)
  have hall := hgo true []
  rw [List.append_nil, ← f.msgs_eq] at hall
  obtain ⟨t, ht, hend⟩ := exec_upload_of_ok hkey hf hin hscript hall
  have hevents : t.lastEvents = f.events := hend.events.trans (congrArg Datapath.events hsends.dp)
  have hreports : u.dp.reports = [] := congrArg Datapath.reports hsends.dp
  refine ⟨t, ht, hreports ▸ hend.returned, ?_, hend.channels.trans hsends.channels, hend.openChan,
    congrArg Datapath.seq hend.dp, ?_, par_of_exec ht⟩
  · rw [hend.sent, hsends.sent, uploadStart_sent, f.clean_eq]
  · rw [hevents, Framing.events_eq_nil_iff hf]

/-- The datapath after `UPLOAD` framed messages without stray bytes and reported their sectors. -/
theorem uploaded_dp {s t : State} {chan : Byte} {bodies : List Bytes} {out : Bytes} {classes : List TimeoutClass}
    {reports : List Report} {rest : List RecvItem}
    (h : Uploads chan out classes reports rest (s.uploadStart (.ofBodies bodies) chan) t) :
    { t.dp with seq := .done } =
      { s.startDp .done with fbuf := t.dp.fbuf, tki := t.dp.tki, reports := reports } := by
  have hfirst : (Framing.ofBodies bodies).first = none := firstStray_ofBodies 0 bodies
  have hstart : (s.uploadStart (.ofBodies bodies) chan).dp =
      { s.startDp .idle with fbuf := (Framing.ofBodies bodies).run.fbuf } := by
    simp only [State.uploadStart, State.opened, State.putFrame, Framing.run, Framing.events, hfirst]
    rfl
  rw [h.dp, hstart]
  rfl

/-- Settles O43: sector by sector, then the messages after the last. -/
theorem uploadReportsAcknowledgment : Obligations.UploadReportsAcknowledgment := by
  intro s key chan model xs tail rest hkey hmodel hxs htail hends hin answers hscript
  have hsound := sectorFraming_sound (later := tail) hmodel s.cfg.ckBitOrder hxs htail
  have hstream := hin.trans (sectorFraming_stream s.cfg.ckBitOrder).symm
  obtain ⟨u, first, hu, hsectors⟩ := uploadFrom_sectorFraming (later := tail) hmodel s.cfg.ckBitOrder hxs hscript
  obtain ⟨v, hv, hgo⟩ := uploadFrom_sends hends u
  have htailGo := hgo first []
  rw [List.append_nil] at htailGo
  obtain ⟨t, ht, hend⟩ := exec_upload_of_ok hkey hsound hstream hscript (hsectors.trans htailGo)
  have huploads := hu.trans (hv.uploads hu.port)
  rw [List.append_nil, List.append_nil, ← hin] at huploads
  have hdp := uploaded_dp huploads
  have hreports : v.dp.reports = xs.map (·.report) := congrArg Datapath.reports hdp
  refine ⟨t, ht, hreports ▸ hend.returned, ?_, ?_, ?_, hend.openChan, ?_, par_of_exec ht⟩
  · rw [hend.sent, huploads.sent, uploadStart_sent]
  · rw [hend.timeouts, huploads.timeouts, uploadStart_timeouts]
  · rw [hend.channels, huploads.port.script]
  · rw [hend.dp, hdp]

/-- The answers of R276 that are no right acknowledgment. -/
theorem badAnswer_of_ackReply {key : Vector Byte 13} {cfg : ConfigRegs} {model : Byte} {reply : Bytes}
    (rest : List RecvItem) (hmodel : model.toNat < 0x80)
    (h : (∃ payload, reply = messageBytes model 0x35 payload ∧ (∀ b ∈ payload, b.toNat < 0x80) ∧
        (payload = [] ∨ payload.length % 8 ≠ 0)) ∨
      (∃ addr status more, reply = ackMsg key cfg.ackCiphered model addr status more ∧ 3 < status.toNat ∧
        (3 + more.length) % 7 = 0) ∨
      (∃ cmd payload, reply = messageBytes model cmd payload ∧ cmd.toNat < 0x80 ∧ cmd ≠ 0x34 ∧ cmd ≠ 0x35 ∧
        ∀ b ∈ payload, b.toNat < 0x80) ∨
      ∃ foreign, reply = framedMsg foreign ∧ (∀ b ∈ foreign, b.toNat < 0x80) ∧ ¬mfrMessage reply) :
    BadAnswer ackSkips (acceptAck key) cfg (reply.map .byte ++ rest) .unexpectedResponse := by
  obtain ⟨payload, rfl, hpayload, hgroups⟩ | ⟨addr, status, more, rfl, hstatus, hgroups⟩ |
    ⟨cmd, payload, rfl, hcmd, hwrite, hack, hpayload⟩ | ⟨foreign, rfl, hforeign, hmfr⟩ := h
  · exact .inr ⟨_, rest, rfl, rejectedAck_of_partGroup hmodel hpayload hgroups⟩
  · exact .inr ⟨_, rest, rfl, rejectedAck_of_status hmodel hstatus hgroups⟩
  · exact .inr ⟨_, rest, rfl, rejectedAck_of_otherClass (msgBody_dataBytes hmodel hcmd hpayload)
      (classify_messageBytes_ne hwrite model payload) (classify_messageBytes_ne hack model payload)⟩
  · exact .inr ⟨_, rest, rfl, rejectedAck_of_otherClass hforeign (classify_foreign_ne hmfr _)
      (classify_foreign_ne hmfr _)⟩

/-- A message that ends a sector goes out, and a bad answer to it ends the loop. -/
theorem uploadFrom_raises {key : Vector Byte 13} {c model : Byte} (hmodel : model.toNat < 0x80) {before : List Bytes}
    {body : Bytes} (hbefore : ∀ x ∈ before, ¬endsSector key (framedMsg x)) (hbody : endsSector key (framedMsg body))
    {echoes : List Bytes} (hechoes : ∀ b ∈ echoes.flatten, b.toNat < 0x80) {answer : List RecvItem} {k : ErrKind}
    {s : State} (hbad : BadAnswer ackSkips (acceptAck key) s.cfg answer k)
    (hport : Listening c ((echoes.map (messageBytes model 0x34)).flatten.map .byte ++ answer) s) (first : Bool)
    (after : List Bytes) :
    ∃ info t, uploadFrom key first ((before ++ body :: after).map framedMsg) s = .raised ⟨k, info⟩ t ∧
      t.sent = s.sent ++ framedBytes (before ++ [body]) := by
  have hdiscards : Discards ackSkips (echoes.map (msgBody model 0x34)) :=
    discards_messageBytes hmodel (by decide) (ackSkips_messageBytes model 0x34) hechoes
  rw [map_messageBytes] at hport
  obtain ⟨u, hu, hgo⟩ := uploadFrom_sends hbefore s
  have hwaiting := ((hu.trans (uploaded_sends key (framedMsg body) u)).trans (setSeq_sends .upWaitAck _)).uploads hport
  rw [← hwaiting.cfg] at hbad
  obtain ⟨info, t, ht, hsent⟩ := waitOn_raises hdiscards hbad hwaiting.port (waitClass first)
  refine ⟨info, t, ?_, ?_⟩
  · rw [List.map_append, hgo, List.map_cons, uploadFrom_of_trigger ((ackTrigger_iff key _).mpr hbody),
      waitAck_eq_waitOn, ht, Run.andThen_raised]
  · rw [hsent, hwaiting.sent, framedBytes_append, framedBytes_singleton, List.append_nil]

/-- Settles O44: after the sectors and the messages before it, the sector's last page goes out and its wait raises. -/
theorem uploadStopsAtUnacknowledgedSector : Obligations.UploadStopsAtUnacknowledgedSector := by
  intro s key chan model xs before after body echoes answer k hkey hmodel hxs hdata hbefore hbody hechoes hin hscript
    hanswer
  have hsound := sectorFraming_sound (later := before ++ body :: after) hmodel s.cfg.ckBitOrder hxs hdata
  have hstream := hin.trans (sectorFraming_stream s.cfg.ckBitOrder).symm
  have hbad : BadAnswer ackSkips (acceptAck key) s.cfg answer k := by
    obtain hsilent | ⟨rfl, reply, rest, rfl, hkinds⟩ := hanswer
    · exact .inl hsilent
    · exact badAnswer_of_ackReply rest hmodel hkinds
  have hsplit := hscript
  rw [List.map_append, List.append_assoc] at hsplit
  obtain ⟨u, first, hu, hsectors⟩ := uploadFrom_sectorFraming (later := before ++ body :: after) hmodel
    s.cfg.ckBitOrder hxs hsplit
  have hcfg : u.cfg = s.cfg := hu.cfg
  obtain ⟨info, v, hv, hsent⟩ := uploadFrom_raises (s := u) hmodel hbefore hbody hechoes (hcfg ▸ hbad) hu.port first
    after
  obtain ⟨t, ht, hend⟩ := exec_upload_of_raised hkey hsound hstream hscript (hsectors.trans hv)
  refine ⟨t, ht, hend.errKind, hend.result, hend.seq, hend.openChan, ?_⟩
  rw [hend.sent, hsent, hu.sent, uploadStart_sent]

end Sys2Proof.Machine
end

section
/-! `RETRIEVE` (spec/45_device_channel.md R285 to R295): the checks before the channel opens, the wait for a page, and
what stands on the port and in the registers after any number of pages. -/

namespace Sys2Proof.Machine

/-! ## `READ_REQUEST` -/

theorem isEntryFor_iff (e : RequestEntry) (model : Byte) (pidx : Half) :
    (e.model == model && e.pidx == pidx) = true ↔ e.model = model ∧ e.pidx = pidx := by
  rw [Bool.and_eq_true, beq_iff_eq, beq_iff_eq]

/-- A model byte and a page index without an entry have the default payload (spec/30_encoding.md R89, log 8). -/
theorem readRequest_at_fallback {f : ReadRequest} {model : Byte} {pidx : Half}
    (h : ∀ e ∈ f.entries, e.model = model → e.pidx ≠ pidx) : f.at model pidx = f.fallback := by
  have hnone : f.entries.find? (fun e => e.model == model && e.pidx == pidx) = none := by
    rw [List.find?_eq_none]
    intro e he hentry
    obtain ⟨hmodel, hpidx⟩ := (isEntryFor_iff e model pidx).mp hentry
    exact h e he hmodel hpidx
  simp only [ReadRequest.at, hnone]

/-- The first entry for a model byte and a page index gives the payload. -/
theorem readRequest_at_first {f : ReadRequest} {model : Byte} {pidx : Half} {payload : Bytes}
    {before after : List RequestEntry} (hf : f.entries = before ++ ⟨model, pidx, payload⟩ :: after)
    (h : ∀ e ∈ before, e.model = model → e.pidx ≠ pidx) : f.at model pidx = payload := by
  have hnone : before.find? (fun e => e.model == model && e.pidx == pidx) = none := by
    rw [List.find?_eq_none]
    intro e he hentry
    obtain ⟨hmodel, hpidx⟩ := (isEntryFor_iff e model pidx).mp hentry
    exact h e he hmodel hpidx
  have hfirst : f.entries.find? (fun e => e.model == model && e.pidx == pidx) = some ⟨model, pidx, payload⟩ := by
    rw [hf, List.find?_append, hnone, Option.none_or]
    exact List.find?_cons_of_pos ((isEntryFor_iff _ model pidx).mpr ⟨rfl, rfl⟩)
  simp only [ReadRequest.at, hfirst]

/-! ## What a part of `RETRIEVE` does -/

/-- `CK`, `TKI` and the page counter after pages that were read (R216, R285). -/
def Datapath.afterPages (order : Config.BitOrder) (xs : List PageExchange) (d : Datapath) : Datapath :=
  { d with
    ck := (xs.getLast?.map fun x => (ckPage order x.data).setWidth 9).getD d.ck
    tki := if xs = [] then d.tki else 12
    page := d.page + xs.length }

theorem afterPages_append (order : Config.BitOrder) (xs ys : List PageExchange) (d : Datapath) (q q' : SeqState) :
    { ({ d.afterPages order xs with seq := q } : Datapath).afterPages order ys with seq := q' } =
      { d.afterPages order (xs ++ ys) with seq := q' } := by
  cases ys with
  | nil => simp [Datapath.afterPages]
  | cons y ys => simp [Datapath.afterPages, Nat.add_assoc, List.getLast?_append, List.getLast?_cons]

theorem startDp_afterPages (s : State) (order : Config.BitOrder) (xs : List PageExchange) (q q' : SeqState) :
    { (s.startDp q).afterPages order xs with seq := q' } =
      { s.startDp q' with
        ck := (xs.getLast?.map fun x => (ckPage order x.data).setWidth 9).getD 0
        tki := if xs = [] then 0 else 12
        page := xs.length } := by
  simp [Datapath.afterPages, State.startDp]

/-- A part of `RETRIEVE` that talks on the port and takes the pages `xs`, of which it returns the messages `replies`. -/
structure Retrieves (c : Byte) (out : Bytes) (classes : List TimeoutClass) (xs : List PageExchange) (replies : Bytes)
    (rest : List RecvItem) (s t : State) : Prop extends Talks c out classes rest s t where
  outBuf : t.outBuf = s.outBuf ++ replies
  dp : t.dp = { s.dp.afterPages s.cfg.ckBitOrder xs with seq := t.dp.seq }

section Retrieves

variable {c : Byte} {s t u : State} {rest rest' : List RecvItem}

theorem Retrieves.trans {out out' replies replies' : Bytes} {cl cl' : List TimeoutClass} {xs xs' : List PageExchange}
    (h : Retrieves c out cl xs replies rest s t) (k : Retrieves c out' cl' xs' replies' rest' t u) :
    Retrieves c (out ++ out') (cl ++ cl') (xs ++ xs') (replies ++ replies') rest' s u where
  toTalks := h.toTalks.trans k.toTalks
  outBuf := by rw [k.outBuf, h.outBuf, List.append_assoc]
  dp := by rw [k.dp, h.dp, h.cfg]; exact afterPages_append _ _ _ _ _ _

/-- A part that takes no page. -/
theorem Talks.retrieves {out : Bytes} {cl : List TimeoutClass} (h : Talks c out cl rest s t)
    (hdp : t.dp = { s.dp with seq := t.dp.seq }) (hout : t.outBuf = s.outBuf) : Retrieves c out cl [] [] rest s t :=
  ⟨h, hout.trans (List.append_nil _).symm, hdp⟩

theorem Retrieves.refl (h : Listening c rest s) : Retrieves c [] [] [] [] rest s s := (Talks.refl h).retrieves rfl rfl

/-- The state once the request for a page is sent (R285). -/
def State.requested (m : Bytes) (s : State) : State := ((s.setSeq .rtSend).sendMsg m).setSeq .rtWait

theorem requested_retrieves (h : Listening c rest s) (m : Bytes) : Retrieves c m [] [] [] rest s (s.requested m) :=
  Talks.retrieves ⟨rfl, ⟨h.openChan, h.script⟩, by simp [State.requested], by simp [State.requested]⟩ rfl rfl

end Retrieves

/-! ## The checks of a reply -/

section AcceptReply

variable {key : Vector Byte 13} {pidx : Half} {s : State} {m payload : Bytes}

theorem acceptReply_of_otherClass (h : classify m ≠ some Config.cmdWrite) :
    (acceptReply key pidx m s).RaisesAt .unexpectedResponse s := ⟨_, s, if_pos h, rfl⟩

theorem acceptReply_of_otherLength (h : payload.length ≠ 296) (model : Byte) :
    (acceptReply key pidx (messageBytes model Config.cmdWrite payload) s).RaisesAt .unexpectedResponse s := by
  refine ⟨.check .pagePayloadLength, s, ?_, rfl⟩
  simp only [acceptReply, classify_messageBytes, payloadOf_messageBytes, ne_eq, not_true_eq_false, if_false]
  exact if_pos h

/-- A reply of a page's length is deciphered and its page index is compared (R292). -/
theorem acceptReply_of_length (h : payload.length = 296) (model : Byte) :
    acceptReply key pidx (messageBytes model Config.cmdWrite payload) s =
      (pagedecRun key payload s).andThen fun plain s =>
        if pidxOf plain ≠ pidx then .raised ⟨.unexpectedResponse, .check .pageIndex⟩ s
        else .ok (messageBytes model Config.cmdWrite payload) s := by
  simp only [acceptReply, classify_messageBytes, payloadOf_messageBytes, ne_eq, not_true_eq_false, if_false]
  exact if_neg (not_not_intro h)

theorem acceptReply_of_mismatch (h : payload.length = 296)
    (hck : ckPage s.cfg.ckBitOrder ((plainOf key payload).drop 3) ≠ byteAt (plainOf key payload) 2) (model : Byte) :
    (acceptReply key pidx (messageBytes model Config.cmdWrite payload) s).RaisesAt .checksumMismatch s := by
  refine ⟨.page (pidxOf (plainOf key payload)), s.readPage key payload, ?_, rfl⟩
  rw [acceptReply_of_length h, pagedecRun_of_mismatch h hck, Run.andThen_raised]

theorem acceptReply_of_otherPage (h : payload.length = 296)
    (hck : ckPage s.cfg.ckBitOrder ((plainOf key payload).drop 3) = byteAt (plainOf key payload) 2)
    (hpidx : pidxOf (plainOf key payload) ≠ pidx) (model : Byte) :
    (acceptReply key pidx (messageBytes model Config.cmdWrite payload) s).RaisesAt .unexpectedResponse s := by
  refine ⟨.check .pageIndex, s.readPage key payload, ?_, rfl⟩
  rw [acceptReply_of_length h, pagedecRun_of_checked h hck, Run.andThen_ok, if_pos hpidx]

end AcceptReply

section RejectedPage

variable {key : Vector Byte 13} {cfg : ConfigRegs} {pidx : Half} {model : Byte} {payload : Bytes}

/-- A message that is neither an echo nor a page write (R292). -/
theorem rejectedPage_of_otherClass {body : Bytes} (hdata : ∀ b ∈ body, b.toNat < 0x80)
    (hread : classify (framedMsg body) ≠ some Config.cmdRead)
    (hwrite : classify (framedMsg body) ≠ some Config.cmdWrite) :
    Rejected pageSkips (acceptReply key pidx) cfg .unexpectedResponse body where
  data := hdata
  taken := beq_eq_false_iff_ne.mpr hread
  rejects _ _ := acceptReply_of_otherClass hwrite

/-- A page write is taken, and rejected where the checks of its payload raise an error. -/
theorem rejectedPage_of_write (hmodel : model.toNat < 0x80) (hdata : ∀ b ∈ payload, b.toNat < 0x80) {k : ErrKind}
    (h : ∀ s : State, s.cfg = cfg →
      (acceptReply key pidx (messageBytes model Config.cmdWrite payload) s).RaisesAt k s) :
    Rejected pageSkips (acceptReply key pidx) cfg k (msgBody model Config.cmdWrite payload) where
  data := msgBody_dataBytes hmodel (by decide) hdata
  taken := pageSkips_messageBytes model Config.cmdWrite payload
  rejects := h

end RejectedPage

/-! ## A page -/

section Page

variable {key : Vector Byte 13} {c model : Byte} {x : PageExchange} {s : State} {rest : List RecvItem}

/-- The page asked for is returned with its command rewritten (R292, R293). -/
theorem acceptReply_retrieves (hdata : x.data.length = 256) (q : Nat) (hport : Listening c rest s) :
    ∃ u, acceptReply key (BitVec.ofNat 16 q) (x.reply s.cfg.ckBitOrder key 0x34 q) s =
        .ok (x.reply s.cfg.ckBitOrder key 0x34 q) u ∧
      Retrieves c [] [] [x] (x.reply s.cfg.ckBitOrder key 0x74 q) rest s
        (u.addReply (x.reply s.cfg.ckBitOrder key 0x34 q)) := by
  refine ⟨_, acceptReply_pagePayload hdata (BitVec.ofNat 16 q) x.model, ⟨rfl, ⟨hport.openChan, hport.script⟩,
    (List.append_nil _).symm, (List.append_nil _).symm⟩, append_eq_append _ _, ?_⟩
  rw [tkiAfter_of_page key (expand_length_of_page (pagePayload_length _ _ _ hdata)), ← setWidth_ckPage]
  rfl

/-- The page asked for in the wait for it, after echoes of the request (R292). -/
theorem waitPage_retrieves (hmodel : model.toNat < 0x80) (hx : x.sound) {q : Nat}
    (hport : Listening c ((x.answer s.cfg.ckBitOrder key model q).map .byte ++ rest) s) (t : TimeoutClass) :
    ∃ u, waitPage key (BitVec.ofNat 16 q) t s = .ok (x.reply s.cfg.ckBitOrder key 0x34 q) u ∧
      Retrieves c [] (List.replicate (x.answer s.cfg.ckBitOrder key model q).length t) [x]
        (x.reply s.cfg.ckBitOrder key 0x74 q) rest s (u.addReply (x.reply s.cfg.ckBitOrder key 0x34 q)) := by
  obtain ⟨hechoes, hdevice, hdata⟩ := hx
  have hanswer : x.answer s.cfg.ckBitOrder key model q = framedBytes (x.echoes.map (msgBody model 0x74)) ++
      framedMsg (msgBody x.model 0x34 (pagePayload s.cfg.ckBitOrder key (BitVec.ofNat 16 q) x.data)) := by
    rw [PageExchange.answer, map_messageBytes]
    rfl
  rw [hanswer] at hport ⊢
  have hdiscards : Discards pageSkips (x.echoes.map (msgBody model 0x74)) :=
    discards_messageBytes hmodel (by decide) (pageSkips_messageBytes model 0x74) hechoes
  obtain ⟨u, hu, htalks, hdp, hout⟩ := waitOn_of_answer (accept := acceptReply key (BitVec.ofNat 16 q)) hdiscards
    (msgBody_dataBytes hdevice (by decide) (pagePayload_lt _ _ _ _)) (pageSkips_messageBytes x.model 0x34 _) hport t
  obtain ⟨v, hv, hpage⟩ := acceptReply_retrieves (key := key) hdata q htalks.port
  rw [htalks.cfg] at hv hpage
  refine ⟨v, hu.trans hv, ?_⟩
  have hboth := (htalks.retrieves (by rw [hdp]) hout).trans hpage
  rw [List.append_nil, List.append_nil] at hboth
  exact hboth

variable {rr : ReadRequest} {start : Addr}

theorem retrieveFrom_succ (n : Nat) (s : State) :
    retrieveFrom key rr model start (n + 1) s =
      (waitPage key (retrievePidx start s) (waitClass (s.dp.page == 0))
        (s.requested (readRequestMsg rr model (retrievePidx start s)))).andThen
        fun r s => retrieveFrom key rr model start n (s.addReply r) := rfl

/-- `RETRIEVE` of a page whose answer stands on the script goes on with the next (R285). -/
theorem retrieveFrom_page (hmodel : model.toNat < 0x80) (hx : x.sound) {q : Nat}
    (hq : start.toNat / 256 + s.dp.page = q)
    (hport : Listening c ((x.answer s.cfg.ckBitOrder key model q).map .byte ++ rest) s) :
    ∃ t, Retrieves c (readRequestMsg rr model (BitVec.ofNat 16 q))
        (List.replicate (x.answer s.cfg.ckBitOrder key model q).length (waitClass (s.dp.page == 0))) [x]
        (x.reply s.cfg.ckBitOrder key 0x74 q) rest s t ∧
      ∀ n, retrieveFrom key rr model start (n + 1) s = retrieveFrom key rr model start n t := by
  have hpidx : retrievePidx start s = BitVec.ofNat 16 q := hq ▸ retrievePidx_eq start s
  have hasked := requested_retrieves hport (readRequestMsg rr model (BitVec.ofNat 16 q))
  obtain ⟨u, hu, hpage⟩ := waitPage_retrieves (s := s.requested _) hmodel hx (hasked.cfg ▸ hasked.port)
    (waitClass (s.dp.page == 0))
  rw [hasked.cfg] at hu hpage
  refine ⟨u.addReply (x.reply s.cfg.ckBitOrder key 0x34 q), ?_, fun n => ?_⟩
  · have hboth := hasked.trans hpage
    rw [List.append_nil] at hboth
    exact hboth
  · rw [retrieveFrom_succ, hpidx, hu, Run.andThen_ok]

end Page

/-! ## Any number of pages -/

section Pages

variable {key : Vector Byte 13} {rr : ReadRequest} {c model : Byte} {start : Addr} {rest : List RecvItem}

/-- What the device answers to the requests for pages from page index `p`. -/
def pageAnswers (order : Config.BitOrder) (key : Vector Byte 13) (model : Byte) (p : Nat) (xs : List PageExchange) :
    List Bytes := (xs.zipIdx p).map fun x => x.1.answer order key model x.2

/-- What `RETRIEVE` returns of them. -/
def pageReplies (order : Config.BitOrder) (key : Vector Byte 13) (p : Nat) (xs : List PageExchange) : Bytes :=
  ((xs.zipIdx p).map fun x => x.1.reply order key 0x74 x.2).flatten

theorem pageRequests_concat (rr : ReadRequest) (model : Byte) (p n : Nat) :
    pageRequests rr model p (n + 1) =
      pageRequests rr model p n ++ readRequestMsg rr model (BitVec.ofNat 16 (p + n)) := by
  simp [pageRequests, List.range'_concat, readRequestMsg, Config.cmdRead]

/-- The pages after the first, all read with `T_SHORT` (spec/60_exceptions.md R330). -/
theorem retrieveFrom_laterPages (hmodel : model.toNat < 0x80) {xs : List PageExchange} (hxs : ∀ x ∈ xs, x.sound)
    {s : State} {q : Nat} (hpage : s.dp.page ≠ 0) (hq : start.toNat / 256 + s.dp.page = q)
    (hport : Listening c ((pageAnswers s.cfg.ckBitOrder key model q xs).flatten.map .byte ++ rest) s) :
    ∃ t, Retrieves c (pageRequests rr model q xs.length)
        (List.replicate (pageAnswers s.cfg.ckBitOrder key model q xs).flatten.length .short) xs
        (pageReplies s.cfg.ckBitOrder key q xs) rest s t ∧
      ∀ n, retrieveFrom key rr model start (n + xs.length) s = retrieveFrom key rr model start n t := by
  induction xs generalizing s q with
  | nil => exact ⟨s, .refl hport, fun _ => rfl⟩
  | cons x xs ih =>
    obtain ⟨hx, hrest⟩ := List.forall_mem_cons.mp hxs
    have hanswers : pageAnswers s.cfg.ckBitOrder key model q (x :: xs) =
        x.answer s.cfg.ckBitOrder key model q :: pageAnswers s.cfg.ckBitOrder key model (q + 1) xs := rfl
    rw [hanswers, List.flatten_cons, List.map_append, List.append_assoc] at hport
    obtain ⟨t, ht, hgo⟩ := retrieveFrom_page (rr := rr) hmodel hx hq hport
    have hnext : t.dp.page = s.dp.page + 1 := congrArg Datapath.page ht.dp
    obtain ⟨u, hu, hlater⟩ := ih hrest (q := q + 1) (by omega) (by omega) (ht.cfg ▸ ht.port)
    rw [ht.cfg] at hu
    refine ⟨u, ?_, fun n => (hgo _).trans (hlater n)⟩
    rw [beq_false_of_ne hpage] at ht
    rw [hanswers, List.flatten_cons, List.length_append, List.replicate_add]
    exact ht.trans hu

/-- All pages: the first wait reads with `T_LONG` (spec/60_exceptions.md R330). -/
theorem retrieveFrom_pages (hmodel : model.toNat < 0x80) {xs : List PageExchange} (hxs : ∀ x ∈ xs, x.sound)
    {s : State} {p : Nat} (hpage : s.dp.page = 0) (hp : start.toNat = 256 * p)
    (hport : Listening c ((pageAnswers s.cfg.ckBitOrder key model p xs).flatten.map .byte ++ rest) s) :
    ∃ t, Retrieves c (pageRequests rr model p xs.length) (waitClasses (pageAnswers s.cfg.ckBitOrder key model p xs)) xs
        (pageReplies s.cfg.ckBitOrder key p xs) rest s t ∧
      ∀ n, retrieveFrom key rr model start (n + xs.length) s = retrieveFrom key rr model start n t := by
  cases xs with
  | nil => exact ⟨s, .refl hport, fun _ => rfl⟩
  | cons x xs =>
    obtain ⟨hx, hrest⟩ := List.forall_mem_cons.mp hxs
    have hanswers : pageAnswers s.cfg.ckBitOrder key model p (x :: xs) =
        x.answer s.cfg.ckBitOrder key model p :: pageAnswers s.cfg.ckBitOrder key model (p + 1) xs := rfl
    rw [hanswers, List.flatten_cons, List.map_append, List.append_assoc] at hport
    obtain ⟨t, ht, hgo⟩ := retrieveFrom_page (rr := rr) (start := start) hmodel hx (by omega) hport
    have hnext : t.dp.page = s.dp.page + 1 := congrArg Datapath.page ht.dp
    obtain ⟨u, hu, hlater⟩ := retrieveFrom_laterPages (rr := rr) (start := start) (q := p + 1) hmodel hrest (by omega)
      (by omega) (ht.cfg ▸ ht.port)
    rw [ht.cfg] at hu
    rw [hpage] at ht
    exact ⟨u, ht.trans hu, fun n => (hgo _).trans (hlater n)⟩

end Pages

/-! ## The operation -/

/-- What `RETRIEVE` checks before it opens the channel (R285). -/
structure Retrievable (limit : Nat) (start count : Addr) (model : Byte) : Prop where
  startAligned : start.toNat % 0x100 = 0
  countAligned : count.toNat % 0x100 = 0
  modelByte : model.toNat < 0x80
  inLimit : start.toNat + count.toNat ≤ limit
  inSpace : start.toNat + count.toNat ≤ 2 ^ 24

section Exec

variable {s : State} {key : Vector Byte 13} {rr : ReadRequest} {chan model : Byte} {start count : Addr}

theorem withReadRequest_of_some (h : s.cfg.readRequest = some rr) (run : ReadRequest → State) :
    s.withReadRequest run = run rr := by
  simp only [State.withReadRequest, h]

/-- The state in which `RETRIEVE` starts. -/
def State.retrieveStart (chan : Byte) (start count : Addr) (model : Byte) (s : State) : State :=
  (s.latch (latched (.retrieve chan start count model))).begin

theorem exec_retrieve (hkey : s.cfg.transportKey = some key) (hrr : s.cfg.readRequest = some rr) (chan model : Byte)
    (start count : Addr) :
    exec (.retrieve chan start count model) s =
      .next (finishChannel (retrieveRun key rr chan start count model (s.retrieveStart chan start count model))) :=
  congrArg Host.Outcome.next <|
    (withKey_of_some (s := s.latch (latched (.retrieve chan start count model))) hkey _).trans
      (withReadRequest_of_some (s := s.latch (latched (.retrieve chan start count model))) hrr _)

theorem retrieveRun_of_not_retrievable (h : ¬Retrievable s.cfg.addrLimit start count model) :
    ∃ info, retrieveRun key rr chan start count model s = .raised ⟨.formatError, info⟩ s := by
  unfold retrieveRun
  dsimp only
  split
  · exact ⟨_, rfl⟩
  next haligned =>
    split
    · exact ⟨_, rfl⟩
    next hmodel =>
      split
      · exact ⟨_, rfl⟩
      next hrange =>
        rw [Bool.not_eq_false, isDataByte_iff] at hmodel
        exact absurd ⟨by omega, by omega, hmodel, by omega, by omega⟩ h

theorem retrieveRun_of_retrievable (h : Retrievable s.cfg.addrLimit start count model) :
    retrieveRun key rr chan start count model s =
      (openPort chan s).andThen fun _ s =>
        (retrieveFrom key rr model start (count.toNat / 256) s).andThen fun _ s =>
          doneWith (Output.ofBytes s.outBuf) s := by
  obtain ⟨hstart, hcount, hmodel, hlimit, hspace⟩ := h
  have hdata : ¬isDataByte model = false := by rwa [Bool.not_eq_false, isDataByte_iff]
  unfold retrieveRun
  dsimp only
  rw [if_neg (by omega), if_neg hdata, if_neg (by omega)]

/-- `RETRIEVE` whose pages all come. -/
theorem exec_retrieve_of_ok (hkey : s.cfg.transportKey = some key) (hrr : s.cfg.readRequest = some rr)
    (h : Retrievable s.cfg.addrLimit start count model) {script : List RecvItem}
    (hscript : scriptOf chan s.channels = some script) {u : State}
    (hrun : retrieveFrom key rr model start (count.toNat / 256)
      ((s.retrieveStart chan start count model).opened chan) = .ok () u) :
    ∃ t, exec (.retrieve chan start count model) s = .next t ∧ AnswersFrom u t (onlyBytes u.outBuf) := by
  refine ⟨_, exec_retrieve hkey hrr chan model start count, ?_⟩
  rw [retrieveRun_of_retrievable (s := s.retrieveStart chan start count model) h,
    openPort_of_some (s := s.retrieveStart chan start count model) hscript, Run.andThen_ok, hrun]
  exact finishChannel_doneWith _ u

/-- `RETRIEVE` that ends in a wait. -/
theorem exec_retrieve_of_raised (hkey : s.cfg.transportKey = some key) (hrr : s.cfg.readRequest = some rr)
    (h : Retrievable s.cfg.addrLimit start count model) {script : List RecvItem}
    (hscript : scriptOf chan s.channels = some script) {u : State} {e : Err}
    (hrun : retrieveFrom key rr model start (count.toNat / 256)
      ((s.retrieveStart chan start count model).opened chan) = .raised e u) :
    ∃ t, exec (.retrieve chan start count model) s = .next t ∧ FailsFrom u t e.kind := by
  refine ⟨_, exec_retrieve hkey hrr chan model start count, ?_⟩
  rw [retrieveRun_of_retrievable (s := s.retrieveStart chan start count model) h,
    openPort_of_some (s := s.retrieveStart chan start count model) hscript, Run.andThen_ok, hrun]
  exact finishChannel_raised_failsFrom e u

end Exec

/-- Settles O45: page by page. -/
theorem retrieveReturnsPages : Obligations.RetrieveReturnsPages := by
  refine ⟨fun f model pidx => ⟨readRequest_at_fallback, fun payload before after => readRequest_at_first⟩, ?_⟩
  intro s key rr chan model start count p xs rest hkey hrr hmodel hxs hstart hcount hlimit hspace order answers hscript
  have hlegal : Retrievable s.cfg.addrLimit start count model := ⟨by omega, by omega, hmodel, hlimit, hspace⟩
  have hport : Listening chan ((pageAnswers s.cfg.ckBitOrder key model p xs).flatten.map .byte ++ rest)
      ((s.retrieveStart chan start count model).opened chan) := ⟨rfl, hscript⟩
  obtain ⟨u, hu, hgo⟩ := retrieveFrom_pages
    (s := (s.retrieveStart chan start count model).opened chan) (rr := rr) hmodel hxs rfl hstart hport
  have hcount' : count.toNat / 256 = 0 + xs.length := by omega
  obtain ⟨t, ht, hend⟩ := exec_retrieve_of_ok hkey hrr hlegal hscript (by rw [hcount']; exact hgo 0)
  have hout : u.outBuf = ((xs.zipIdx p).map fun x => x.1.reply order key 0x74 x.2).flatten := hu.outBuf
  refine ⟨t, ht, hout ▸ hend.returned, ?_, ?_, ?_, hend.openChan, ?_, par_of_exec ht⟩
  · rw [hend.sent, hu.sent, opened_sent]
    rfl
  · rw [hend.timeouts, hu.timeouts, opened_timeouts]
    rfl
  · rw [hend.channels, hu.port.script]
  · rw [hend.dp, hu.dp]
    exact startDp_afterPages s order xs .idle .done

/-! ## `RETRIEVE` that fails -/

section Fails

variable {s : State} {key : Vector Byte 13} {rr : ReadRequest} {chan model : Byte} {start count : Addr}

theorem exec_retrieve_of_not_retrievable (hkey : s.cfg.transportKey = some key) (hrr : s.cfg.readRequest = some rr)
    (h : ¬Retrievable s.cfg.addrLimit start count model) :
    ∃ t, exec (.retrieve chan start count model) s = .next t ∧
      FailsFrom (s.retrieveStart chan start count model) t .formatError := by
  obtain ⟨info, hrun⟩ := retrieveRun_of_not_retrievable (key := key) (rr := rr) (chan := chan)
    (s := s.retrieveStart chan start count model) h
  refine ⟨_, exec_retrieve hkey hrr chan model start count, ?_⟩
  rw [hrun]
  exact finishChannel_raised_failsFrom ⟨.formatError, info⟩ _

/-- A bad answer ends the loop at its page, whose request was sent. -/
theorem retrieveFrom_raises (hmodel : model.toNat < 0x80) {echoes : List Bytes}
    (hechoes : ∀ b ∈ echoes.flatten, b.toNat < 0x80) {q : Nat} (hq : start.toNat / 256 + s.dp.page = q)
    {answer : List RecvItem} {k : ErrKind}
    (hbad : BadAnswer pageSkips (acceptReply key (BitVec.ofNat 16 q)) s.cfg answer k)
    (hport : Listening chan ((echoes.map (messageBytes model 0x74)).flatten.map .byte ++ answer) s) (n : Nat) :
    ∃ info t, retrieveFrom key rr model start (n + 1) s = .raised ⟨k, info⟩ t ∧
      t.sent = s.sent ++ readRequestMsg rr model (BitVec.ofNat 16 q) := by
  have hdiscards : Discards pageSkips (echoes.map (msgBody model 0x74)) :=
    discards_messageBytes hmodel (by decide) (pageSkips_messageBytes model 0x74) hechoes
  have hpidx : retrievePidx start s = BitVec.ofNat 16 q := hq ▸ retrievePidx_eq start s
  rw [map_messageBytes] at hport
  have hasked := requested_retrieves hport (readRequestMsg rr model (BitVec.ofNat 16 q))
  rw [← hasked.cfg] at hbad
  obtain ⟨info, t, ht, hsent⟩ := waitOn_raises hdiscards hbad hasked.port (waitClass (s.dp.page == 0))
  refine ⟨info, t, ?_, hsent.trans hasked.sent⟩
  rw [retrieveFrom_succ, hpidx, waitPage_eq_waitOn, ht, Run.andThen_raised]

/-- A reply that is not the page asked for, by the first check of R292 that it fails. -/
theorem badAnswer_of_pageReply {cfg : ConfigRegs} {pidx : Half} {k : ErrKind} {cmd : Byte} {payload : Bytes}
    (hmodel : model.toNat < 0x80) (hcmd : cmd.toNat < 0x80) (hdata : ∀ b ∈ payload, b.toNat < 0x80)
    (rest : List RecvItem)
    (h : (k = .unexpectedResponse ∧ cmd ≠ 0x34 ∧ cmd ≠ 0x74) ∨
      (k = .unexpectedResponse ∧ cmd = 0x34 ∧ payload.length ≠ 296) ∨
      (k = .checksumMismatch ∧ cmd = 0x34 ∧ payload.length = 296 ∧
        ¬byteAt (plainOf key payload) 2 = ckPage cfg.ckBitOrder ((plainOf key payload).drop 3)) ∨
      (k = .unexpectedResponse ∧ cmd = 0x34 ∧ payload.length = 296 ∧
        byteAt (plainOf key payload) 2 = ckPage cfg.ckBitOrder ((plainOf key payload).drop 3) ∧
        pidxOf (plainOf key payload) ≠ pidx)) :
    BadAnswer pageSkips (acceptReply key pidx) cfg ((messageBytes model cmd payload).map .byte ++ rest) k := by
  refine .inr ⟨msgBody model cmd payload, rest, rfl, ?_⟩
  obtain ⟨rfl, hwrite, hread⟩ | ⟨rfl, rfl, hlen⟩ | ⟨rfl, rfl, hlen, hck⟩ | ⟨rfl, rfl, hlen, hck, hpidx⟩ := h
  · exact rejectedPage_of_otherClass (msgBody_dataBytes hmodel hcmd hdata)
      (classify_messageBytes_ne hread model payload) (classify_messageBytes_ne hwrite model payload)
  · exact rejectedPage_of_write hmodel hdata fun _ _ => acceptReply_of_otherLength hlen model
  · exact rejectedPage_of_write hmodel hdata fun s hs =>
      acceptReply_of_mismatch hlen (fun h => hck (hs ▸ h).symm) model
  · exact rejectedPage_of_write hmodel hdata fun s hs =>
      acceptReply_of_otherPage hlen (hs ▸ hck.symm) hpidx model

/-- `RETRIEVE` that a bad answer ends after any number of good pages. -/
theorem exec_retrieve_of_badAnswer (hkey : s.cfg.transportKey = some key) (hrr : s.cfg.readRequest = some rr)
    (hlegal : Retrievable s.cfg.addrLimit start count model) {p n : Nat} {xs : List PageExchange}
    (hstart : start.toNat = 256 * p) (hcount : count.toNat = 256 * n) (hn : xs.length < n) (hxs : ∀ x ∈ xs, x.sound)
    {echoes : List Bytes} (hechoes : ∀ b ∈ echoes.flatten, b.toNat < 0x80) {answer : List RecvItem}
    (hscript : scriptOf chan s.channels = some (((pageAnswers s.cfg.ckBitOrder key model p xs).flatten ++
      (echoes.map (messageBytes model 0x74)).flatten).map .byte ++ answer)) {k : ErrKind}
    (hbad : BadAnswer pageSkips (acceptReply key (BitVec.ofNat 16 (p + xs.length))) s.cfg answer k) :
    ∃ t u, exec (.retrieve chan start count model) s = .next t ∧ FailsFrom u t k ∧
      u.sent = s.sent ++ pageRequests rr model p (xs.length + 1) := by
  have hport : Listening chan ((pageAnswers s.cfg.ckBitOrder key model p xs).flatten.map .byte ++
      ((echoes.map (messageBytes model 0x74)).flatten.map .byte ++ answer))
      ((s.retrieveStart chan start count model).opened chan) :=
    ⟨rfl, by rw [← List.append_assoc, ← List.map_append]; exact hscript⟩
  obtain ⟨u, hu, hgo⟩ := retrieveFrom_pages (s := (s.retrieveStart chan start count model).opened chan) (rr := rr)
    hlegal.modelByte hxs rfl hstart hport
  have hpage : u.dp.page = 0 + xs.length := congrArg Datapath.page hu.dp
  have hcfg : u.cfg = s.cfg := hu.cfg
  obtain ⟨info, v, hv, hsent⟩ := retrieveFrom_raises (rr := rr) (start := start) (s := u) (q := p + xs.length)
    hlegal.modelByte hechoes (by omega) (hcfg ▸ hbad) hu.port (n - xs.length - 1)
  have hrun := hgo (n - xs.length - 1 + 1)
  rw [hv, show n - xs.length - 1 + 1 + xs.length = count.toNat / 256 by omega] at hrun
  obtain ⟨t, ht, hend⟩ := exec_retrieve_of_raised hkey hrr hlegal hscript hrun
  refine ⟨t, v, ht, hend, ?_⟩
  rw [hsent, hu.sent, opened_sent, pageRequests_concat, List.append_assoc]
  rfl

end Fails

/-- Settles O46: the range is checked before the channel opens, no page is asked for where none is counted, and a bad
answer ends the loop at its page. -/
theorem retrieveChecks : Obligations.RetrieveChecks := by
  refine fun s key rr chan start count model hkey hrr => ⟨fun hbad => ?_,
    fun hstart hcount hmodel hlimit hopen => ?_, ?_⟩
  · have hnot : ¬Retrievable s.cfg.addrLimit start count model := by
      rintro ⟨hstart, hcount, hmodel, hlimit, hspace⟩
      omega
    obtain ⟨t, ht, hend⟩ := exec_retrieve_of_not_retrievable (chan := chan) hkey hrr hnot
    exact ⟨t, ht, hend.errKind, hend.sent, hend.channels, hend.dp⟩
  · subst hcount
    obtain ⟨script, hscript⟩ := Option.ne_none_iff_exists'.mp hopen
    have hlegal : Retrievable s.cfg.addrLimit start 0 model := ⟨hstart, rfl, hmodel, hlimit, start.isLt.le⟩
    obtain ⟨t, ht, hend⟩ := exec_retrieve_of_ok hkey hrr hlegal hscript rfl
    exact ⟨t, ht, hend.returned, hend.sent.trans (opened_sent _ _), hend.channels, hend.dp⟩
  · intro p n xs echoes answer k hstart hcount hn hmodel hlimit hspace hxs hechoes hscript hanswer
    have hlegal : Retrievable s.cfg.addrLimit start count model := ⟨by omega, by omega, hmodel, hlimit, hspace⟩
    have hbad : BadAnswer pageSkips (acceptReply key (BitVec.ofNat 16 (p + xs.length))) s.cfg answer k := by
      obtain hsilent | ⟨cmd, payload, rest, hcmd, hdata, rfl, hkinds⟩ | ⟨rfl, foreign, rest, hdata, hforeign, rfl⟩ :=
        hanswer
      · exact .inl hsilent
      · exact badAnswer_of_pageReply hmodel hcmd hdata rest hkinds
      · exact .inr ⟨foreign, rest, rfl, rejectedPage_of_otherClass hdata (classify_foreign_ne hforeign _)
          (classify_foreign_ne hforeign _)⟩
    obtain ⟨t, u, ht, hend, hsent⟩ := exec_retrieve_of_badAnswer hkey hrr hlegal hstart hcount hn hxs hechoes hscript
      hbad
    exact ⟨t, ht, hend.errKind, fun r hr => (hend.result r hr).2, hend.seq, hend.openChan, hend.sent.trans hsent⟩

/-! ## What `RETRIEVE` returns, whatever the device sends -/

/-- A page message with command `0x74` (R293). -/
structure IsReadback (m : Bytes) : Prop where
  length : m.length = 303
  header : m.take 4 = [0xF0, 0x00, 0x20, 0x32]
  command : byteAt m 5 = 0x74

/-- A wait changes no byte of `OUT`, and what it answers begins with the start byte. -/
theorem receive_spec {s t : State} {c : TimeoutClass} {skip : Bytes → Bool} {m : Option Bytes}
    (h : s.receive c skip = (m, t)) : t.outBuf = s.outBuf ∧ ∀ m', m = some m' → m'.head? = some 0xF0 := by
  unfold State.receive at h
  split at h
  · cases h
    exact ⟨rfl, by rintro m' ⟨⟩⟩
  · cases h
    exact ⟨rfl, fun m' => recvUntil_head? skip .outside _ trivial⟩

/-- A reply that is accepted is a page write, and stays as it is. -/
theorem acceptReply_eq_ok {key : Vector Byte 13} {pidx : Half} {m r : Bytes} {s t : State}
    (h : acceptReply key pidx m s = .ok r t) :
    r = m ∧ mfrMessage m ∧ (payloadOf m).length = 296 ∧ t.outBuf = s.outBuf := by
  unfold acceptReply at h
  dsimp only at h
  split at h
  · cases h
  next hclass =>
    split at h
    · cases h
    next hlen =>
      obtain ⟨plain, u, hu, hr⟩ := Run.andThen_eq_ok h
      have hquiet := pagedecRun_quiet key (payloadOf m) s
      rw [hu] at hquiet
      have hout : u.outBuf = s.outBuf := by rw [hquiet.outside]
      split at hr
      · cases hr
      · cases hr
        exact ⟨rfl, ((classify_eq_some_iff _ _).mp (not_not.mp hclass)).1, not_not.mp hlen, hout⟩

/-- A page message with its command rewritten, from the checks it passed. -/
theorem isReadback_rewriteReply {m : Bytes} (hstart : m.head? = some 0xF0) (hmfr : mfrMessage m)
    (hlen : (payloadOf m).length = 296) : IsReadback (rewriteReply m) := by
  rw [payloadOf_length] at hlen
  obtain ⟨-, h1, h2, h3⟩ := hmfr
  match m, hlen with
  | a :: b :: c :: d :: e :: f :: m, hlen =>
    cases hstart
    cases h1
    cases h2
    cases h3
    exact ⟨by simpa [rewriteReply] using hlen, rfl, rfl⟩

theorem waitPage_eq_ok {key : Vector Byte 13} {pidx : Half} {c : TimeoutClass} {r : Bytes} {s t : State}
    (h : waitPage key pidx c s = .ok r t) : IsReadback (rewriteReply r) ∧ t.outBuf = s.outBuf := by
  unfold waitPage at h
  split at h
  · cases h
  next m u heq =>
    obtain ⟨hout, hhead⟩ := receive_spec heq
    obtain ⟨rfl, hmfr, hlen, hout'⟩ := acceptReply_eq_ok h
    exact ⟨isReadback_rewriteReply (hhead r rfl) hmfr hlen, hout'.trans hout⟩

/-- The loop appends one page message for every page it counts (R285, R293). -/
theorem retrieveFrom_eq_ok {key : Vector Byte 13} {rr : ReadRequest} {model : Byte} {start : Addr} {n : Nat}
    {s t : State} (h : retrieveFrom key rr model start n s = .ok () t) :
    ∃ msgs : List Bytes, msgs.length = n ∧ (∀ m ∈ msgs, IsReadback m) ∧ t.outBuf = s.outBuf ++ msgs.flatten := by
  induction n generalizing s with
  | zero =>
    cases h
    exact ⟨[], rfl, by simp, (List.append_nil _).symm⟩
  | succ n ih =>
    rw [retrieveFrom_succ] at h
    obtain ⟨r, u, hu, hlater⟩ := Run.andThen_eq_ok h
    obtain ⟨hr, hout⟩ := waitPage_eq_ok hu
    obtain ⟨msgs, hlen, hmsgs, hall⟩ := ih hlater
    refine ⟨rewriteReply r :: msgs, congrArg (· + 1) hlen, List.forall_mem_cons.mpr ⟨hr, hmsgs⟩, ?_⟩
    have hrequested : (s.requested (readRequestMsg rr model (retrievePidx start s))).outBuf = s.outBuf := rfl
    rw [hall, State.addReply_outBuf, append_eq_append, hout, hrequested, List.append_assoc, List.flatten_cons]

/-- Bytes that are `n` page messages with command `0x74`, by their offsets. -/
def ReadbackPages (n : Nat) (out : Bytes) : Prop :=
  out.length = 303 * n ∧
    ∀ i, i < n → (out.drop (303 * i)).take 4 = [0xF0, 0x00, 0x20, 0x32] ∧ byteAt out (303 * i + 5) = 0x74

theorem readbackPages_flatten {msgs : List Bytes} (h : ∀ m ∈ msgs, IsReadback m) :
    ReadbackPages msgs.length msgs.flatten := by
  induction msgs with
  | nil => exact ⟨rfl, fun i hi => absurd hi (Nat.not_lt_zero i)⟩
  | cons m msgs ih =>
    obtain ⟨⟨hlen, hheader, hcommand⟩, hrest⟩ := List.forall_mem_cons.mp h
    obtain ⟨hflat, hlater⟩ := ih hrest
    rw [List.flatten_cons]
    refine ⟨by rw [List.length_append, hlen, hflat, List.length_cons]; omega, fun i hi => ?_⟩
    cases i with
    | zero =>
      refine ⟨?_, ?_⟩
      · rw [Nat.mul_zero, List.drop_zero, List.take_append_of_le_length (by omega), hheader]
      · rw [Nat.mul_zero, Nat.zero_add, byteAt_append_left (by omega), hcommand]
    | succ i =>
      obtain ⟨hhead, hcmd⟩ := hlater i (Nat.lt_of_succ_lt_succ hi)
      have hoffset : 303 * (i + 1) = m.length + 303 * i := by omega
      rw [hoffset, List.drop_length_add_append, Nat.add_assoc, byteAt_append_right]
      exact ⟨hhead, hcmd⟩

theorem returned_finishChannel {r : Run Output} {o : Output} (h : (finishChannel r).returned o) :
    ∃ t, r = .ok o t := by
  cases r with
  | ok o' t =>
    obtain rfl := (returned_returnOk_iff _ _ _).mp h
    exact ⟨t, rfl⟩
  | raised e t => exact absurd h (not_returned_returnError _ e o)

/-- `RETRIEVE` that answers has run its page loop to the end (R285). -/
theorem retrieveRun_eq_ok {key : Vector Byte 13} {rr : ReadRequest} {chan model : Byte} {start count : Addr}
    {o : Output} {s t : State} (h : retrieveRun key rr chan start count model s = .ok o t) :
    ∃ u v, u.outBuf = s.outBuf ∧ retrieveFrom key rr model start (count.toNat / 256) u = .ok () v ∧
      o.out = v.outBuf := by
  by_cases hlegal : Retrievable s.cfg.addrLimit start count model
  · rw [retrieveRun_of_retrievable hlegal] at h
    cases hscript : scriptOf chan s.channels with
    | none =>
      rw [openPort_of_none hscript] at h
      cases h
    | some script =>
      rw [openPort_of_some hscript, Run.andThen_ok] at h
      obtain ⟨_, v, hv, hdone⟩ := Run.andThen_eq_ok h
      cases hdone
      exact ⟨s.opened chan, v, rfl, hv, rfl⟩
  · obtain ⟨info, hraised⟩ := retrieveRun_of_not_retrievable (key := key) (rr := rr) (chan := chan) hlegal
    cases hraised.symm.trans h

theorem readbackPages_of_retrieveRun {key : Vector Byte 13} {rr : ReadRequest} {chan model : Byte} {start count : Addr}
    {o : Output} {s t : State} (hout : s.outBuf = [])
    (h : retrieveRun key rr chan start count model s = .ok o t) : ReadbackPages (count.toNat / 256) o.out := by
  obtain ⟨u, v, hstart, hloop, ho⟩ := retrieveRun_eq_ok h
  obtain ⟨msgs, hlen, hmsgs, hall⟩ := retrieveFrom_eq_ok hloop
  rw [ho, hall, hstart, hout, List.nil_append, ← hlen]
  exact readbackPages_flatten hmsgs

/-- Settles O47: a refusal returns nothing, and an answer comes from a loop that ran to its end. -/
theorem retrieveOutputIsReadback : Obligations.RetrieveOutputIsReadback := by
  intro s t chan start count model o h hreturned
  cases h
  refine withKey_cases (P := fun t => t.returned o → ReadbackPages (count.toNat / 256) o.out)
    (fun hrefused => absurd hrefused (not_returned_refuse _ o)) (fun key => ?_) hreturned
  refine withReadRequest_cases (P := fun t => t.returned o → ReadbackPages (count.toNat / 256) o.out)
    (fun hrefused => absurd hrefused (not_returned_refuse _ o)) fun rr hended => ?_
  obtain ⟨u, hu⟩ := returned_finishChannel hended
  exact readbackPages_of_retrieveRun rfl hu

end Sys2Proof.Machine
end

section
/-! `DISPLAY` (spec/45_device_channel.md R300, R301), and the end of every channel operation on a channel that cannot be
opened (R261). -/

namespace Sys2Proof.Machine

/-! ## `DISPLAY` -/

section Display

variable {s : State} {key : Vector Byte 13} {chan model : Byte} {label : Label}

theorem displayPlain_length (order : Config.BitOrder) (label : Label) : (displayPlain order label).length = 7 := rfl

/-- The payload of the display packet (spec/30_encoding.md R86). -/
def displayPayload (order : Config.BitOrder) (key : Vector Byte 13) (label : Label) : Bytes :=
  carry key (displayPlain order label)

theorem displayPayload_length (order : Config.BitOrder) (key : Vector Byte 13) (label : Label) :
    (displayPayload order key label).length = 8 := by
  rw [displayPayload, carry_length, displayPlain_length]

/-- The payload expands to the plain packet, ciphered (R83). -/
theorem expand_displayPayload (order : Config.BitOrder) (key : Vector Byte 13) (label : Label) :
    expand (displayPayload order key label) = tcipher key (displayPlain order label) :=
  expand_pack (by rw [tcipher_length, displayPlain_length])

theorem tkiAfter_displayPlain (order : Config.BitOrder) (key : Vector Byte 13) (label : Label) :
    tkiAfter key (displayPlain order label) = 7 := Fin.ext (tkiAfter_val key _)

theorem exec_display (hkey : s.cfg.transportKey = some key) (chan model : Byte) (label : Label) :
    exec (.display chan model label) s =
      .next (finishChannel (displayRun key chan model label (s.latch (latched (.display chan model label))).begin)) :=
  congrArg Host.Outcome.next (withKey_of_some (s := s.latch (latched (.display chan model label))) hkey _)

/-- The state once the display packet is sent (R300). -/
def State.displayed (key : Vector Byte 13) (model : Byte) (label : Label) (s : State) : State :=
  (((s.setSeq .dispSend).putCk ((ckPage s.cfg.ckBitOrder label.bytes).setWidth 9)).putTki 7).sendMsg
    (messageBytes model Config.cmdWrite (displayPayload s.cfg.ckBitOrder key label))

theorem displayed_sent (s : State) :
    (s.displayed key model label).sent =
      s.sent ++ messageBytes model Config.cmdWrite (displayPayload s.cfg.ckBitOrder key label) :=
  (sendMsg_sent _ _).trans (congrArg (· ++ _) (setSeq_sent .dispSend s))

theorem displayRun_of_dataByte (hmodel : model.toNat < 0x80) :
    displayRun key chan model label s =
      (openPort chan s).andThen fun _ s => doneWith (Output.ofBytes []) (s.displayed key model label) := by
  have hdata : ¬isDataByte model = false := by rwa [Bool.not_eq_false, isDataByte_iff]
  rw [displayRun, if_neg hdata]
  congr
  funext _ u
  rw [State.displayed, setWidth_ckPage]
  simp only [tkiAfter_displayPlain]
  rfl

theorem displayRun_of_not_dataByte (hmodel : 0x80 ≤ model.toNat) :
    displayRun key chan model label s = .raised ⟨.formatError, .check .modelByte⟩ s :=
  if_pos (Bool.eq_false_iff.mpr (mt (isDataByte_iff model).mp (Nat.not_lt.mpr hmodel)))

end Display

/-- Settles O48: the packet goes out on the open channel; the model byte is checked before. -/
theorem displaySendsPacket : Obligations.DisplaySendsPacket := by
  refine fun s key chan model label hkey => ⟨fun hmodel hopen => ?_, fun hmodel => ?_⟩
  · obtain ⟨script, hscript⟩ := Option.ne_none_iff_exists'.mp hopen
    have hexec := exec_display hkey chan model label
    rw [displayRun_of_dataByte hmodel, openPort_of_some
      (s := (s.latch (latched (.display chan model label))).begin) hscript, Run.andThen_ok] at hexec
    have hend := finishChannel_doneWith (Output.ofBytes [])
      ((((s.latch (latched (.display chan model label))).begin).opened chan).displayed key model label)
    refine ⟨_, displayPayload s.cfg.ckBitOrder key label, hexec, hend.returned, ?_, displayPayload_length _ key label,
      pack_lt _, expand_displayPayload _ key label, hend.dp, hend.channels, hend.openChan, par_of_exec hexec⟩
    rw [hend.sent, displayed_sent, opened_sent]
    rfl
  · have hexec := exec_display hkey chan model label
    rw [displayRun_of_not_dataByte hmodel] at hexec
    have hend := finishChannel_raised_failsFrom ⟨.formatError, .check .modelByte⟩
      ((s.latch (latched (.display chan model label))).begin)
    exact ⟨_, hexec, hend.errKind, hend.sent, hend.channels⟩

/-! ## A channel that cannot be opened -/

/-- The operation ended with `DeviceNotFound` before it touched the channel. -/
structure FindsNoDevice (s t : State) : Prop where
  errKind : t.errKind = some .deviceNotFound
  seq : t.dp.seq = .failed
  sent : t.sent = s.sent
  channels : t.channels = s.channels

theorem finishChannel_findsNoDevice {s u : State} (info : Info) (hsent : u.sent = s.sent)
    (hchans : u.channels = s.channels) : FindsNoDevice s (finishChannel (.raised ⟨.deviceNotFound, info⟩ u)) :=
  have hend := finishChannel_raised_failsFrom ⟨.deviceNotFound, info⟩ u
  ⟨hend.errKind, hend.seq, hend.sent.trans hsent, hend.channels.trans hchans⟩

section Unopenable

variable {s : State} {chan : Byte} (h : scriptOf chan s.channels = none)

include h

theorem probe_findsNoDevice (hreq : s.cfg.probeRequest ≠ none) :
    ∃ t, exec (.probe chan) s = .next t ∧ FindsNoDevice s t := by
  obtain ⟨req, hreq⟩ := Option.ne_none_iff_exists'.mp hreq
  refine ⟨_, exec_probe hreq chan, ?_⟩
  rw [probeRun_of_unopenable (s := (s.latch (latched (.probe chan))).begin) h]
  exact finishChannel_findsNoDevice _ rfl rfl

theorem upload_findsNoDevice (hkey : s.cfg.transportKey ≠ none) {f : Framing} (hf : f.sound)
    (hin : s.inBuf = f.stream) :
    ∃ t, exec (.upload chan) s = .next t ∧ FindsNoDevice s t := by
  obtain ⟨key, hkey⟩ := Option.ne_none_iff_exists'.mp hkey
  refine ⟨_, exec_upload hkey chan, ?_⟩
  rw [uploadRun, hin, frameIn_stream hf, Run.andThen_ok,
    openPort_of_none (s := ((s.latch (latched (.upload chan))).begin).putFrame f.run) h]
  exact finishChannel_findsNoDevice _ rfl rfl

theorem display_findsNoDevice (hkey : s.cfg.transportKey ≠ none) {model : Byte} (hmodel : model.toNat < 0x80)
    (label : Label) : ∃ t, exec (.display chan model label) s = .next t ∧ FindsNoDevice s t := by
  obtain ⟨key, hkey⟩ := Option.ne_none_iff_exists'.mp hkey
  refine ⟨_, exec_display hkey chan model label, ?_⟩
  rw [displayRun_of_dataByte hmodel, openPort_of_none (s := (s.latch (latched (.display chan model label))).begin) h]
  exact finishChannel_findsNoDevice _ rfl rfl

theorem retrieve_findsNoDevice (hkey : s.cfg.transportKey ≠ none) (hrr : s.cfg.readRequest ≠ none) {start count : Addr}
    {model : Byte} (hlegal : Retrievable s.cfg.addrLimit start count model) :
    ∃ t, exec (.retrieve chan start count model) s = .next t ∧ FindsNoDevice s t := by
  obtain ⟨key, hkey⟩ := Option.ne_none_iff_exists'.mp hkey
  obtain ⟨rr, hrr⟩ := Option.ne_none_iff_exists'.mp hrr
  refine ⟨_, exec_retrieve hkey hrr chan model start count, ?_⟩
  rw [retrieveRun_of_retrievable (s := s.retrieveStart chan start count model) hlegal,
    openPort_of_none (s := s.retrieveStart chan start count model) h]
  exact finishChannel_findsNoDevice _ rfl rfl

end Unopenable

/-- Settles O41, operation by operation: the channel is opened before anything is sent. -/
theorem unopenableChannel : Obligations.UnopenableChannel := by
  intro s chan i h hi
  obtain ⟨t, ht, hend⟩ : ∃ t, exec i s = .next t ∧ FindsNoDevice s t := by
    obtain ⟨rfl, hreq⟩ | ⟨rfl, hkey, f, hf, hin⟩ | ⟨model, label, rfl, hkey, hmodel⟩ |
      ⟨start, count, model, rfl, hkey, hrr, hstart, hcount, hmodel, hlimit, hspace⟩ := hi
    · exact probe_findsNoDevice h hreq
    · exact upload_findsNoDevice h hkey hf hin
    · exact display_findsNoDevice h hkey hmodel label
    · exact retrieve_findsNoDevice h hkey hrr ⟨hstart, hcount, hmodel, hlimit, hspace⟩
  exact ⟨t, ht, hend.errKind, hend.seq, hend.sent, hend.channels⟩

end Sys2Proof.Machine
end

section
/-! What an operation returns of its events (spec/60_exceptions.md R322), and a message that reaches the block outside a
wait (R325). -/

namespace Sys2Proof.Machine

/-! ## At most one event -/

theorem oneEvent_iff (s : State) : s.oneEvent = true ↔ s.dp.events.length ≤ 1 ∧ s.lastEvents.length ≤ 1 := by
  unfold State.oneEvent State.lastEvents
  cases s.result <;> simp

/-- The invariant reads the events of the datapath and the result, nothing else. -/
theorem oneEvent_of_eq {s t : State} (hs : s.oneEvent = true) (hevents : t.dp.events = s.dp.events)
    (hresult : t.result = s.result) : t.oneEvent = true := by
  rw [← hs, State.oneEvent, State.oneEvent, hevents, hresult]

theorem Ported.oneEvent {s t : State} (h : Ported s t) (hs : s.oneEvent = true) : t.oneEvent = true :=
  oneEvent_of_eq hs h.events h.result

theorem refuse_oneEvent {s : State} (hs : s.oneEvent = true) : s.refuse.oneEvent = true :=
  (oneEvent_iff _).2 ⟨((oneEvent_iff s).1 hs).1, Nat.zero_le 1⟩

theorem readResult_oneEvent {s : State} (hs : s.oneEvent = true) : s.readResult.oneEvent = true := by
  unfold State.readResult
  split
  · exact (Ported.setSeq .idle s).oneEvent hs
  · exact hs

/-! An operation's end returns the events that its run left in the datapath (R322). -/

theorem finish_events (r : Run Output) : (finish r).dp.events = r.last.dp.events := by
  cases r <;> rfl

theorem finish_lastEvents (r : Run Output) : (finish r).lastEvents = r.last.dp.events := by
  cases r <;> rfl

theorem finishChannel_events (r : Run Output) : (finishChannel r).dp.events = r.last.dp.events := by
  cases r <;> simp

theorem finishChannel_lastEvents (r : Run Output) : (finishChannel r).lastEvents = r.last.dp.events := by
  cases r <;> simp [State.lastEvents, Result.ofOutput, Result.ofErr]

theorem finish_oneEvent {r : Run Output} (h : r.last.dp.events.length ≤ 1) : (finish r).oneEvent = true := by
  rw [oneEvent_iff, finish_events, finish_lastEvents]
  exact ⟨h, h⟩

theorem finishChannel_oneEvent {r : Run Output} (h : r.last.dp.events.length ≤ 1) :
    (finishChannel r).oneEvent = true := by
  rw [oneEvent_iff, finishChannel_events, finishChannel_lastEvents]
  exact ⟨h, h⟩

theorem begin_events_length (s : State) : s.begin.dp.events.length ≤ 1 := Nat.zero_le 1

/-! ## What a message does -/

/-- The ways in which a message that reaches the block at `s` is answered: the operation goes on, and what is the host's
stays; or the message ends the operation. -/
inductive Answers (s : State) : State → Prop where
  | goesOn {t : State} (h : Ported s t) : Answers s t
  | ends {r : Run Output} (h : r.Ported s) : Answers s (finishChannel r)

theorem Answers.nothing (s : State) : Answers s s := .goesOn (.refl s)

theorem probeMessage_answers (m : Bytes) (s : State) : Answers s (probeMessage m s) := by
  unfold probeMessage
  split
  · split
    · exact .nothing s
    · exact .ends (doneWith_ported _ s)
  · exact .nothing s

theorem ackMessage_answers (m : Bytes) (s : State) : Answers s (ackMessage m s) := by
  unfold ackMessage
  split
  · next key _ =>
    have hack := acceptAck_ported key m s
    split
    · exact .nothing s
    · split
      · next r t heq =>
        rw [heq] at hack
        exact .goesOn (Ported.trans hack (Ported.addReport r t))
      · next e t heq =>
        rw [heq] at hack
        exact .ends hack
  · exact .nothing s

theorem pageMessage_answers (m : Bytes) (s : State) : Answers s (pageMessage m s) := by
  unfold pageMessage
  split
  · next key start _ _ _ _ =>
    have hreply := acceptReply_ported key (retrievePidx start s) m s
    split
    · exact .nothing s
    · split
      · next r t heq =>
        rw [heq] at hreply
        have hadd : Ported s (t.addReply r) := Ported.trans hreply (Ported.addReply r t)
        split
        · exact .goesOn (hadd.trans (Ported.setSeq .rtSend _))
        · exact .ends ((doneWith_ported _ _).after hadd)
      · next e t heq =>
        rw [heq] at hreply
        exact .ends hreply
  · exact .nothing s

theorem deliver_answers (m : Bytes) (s : State) : Answers s (s.deliver m) := by
  unfold State.deliver
  split
  case h_1 => exact probeMessage_answers m s
  case h_2 => exact ackMessage_answers m s
  case h_3 => exact pageMessage_answers m s
  all_goals exact .nothing s

theorem deliverBytes_answers (bs : Bytes) (s : State) : Answers s (s.deliverBytes bs) := by
  unfold State.deliverBytes
  split
  · exact .nothing s
  · exact deliver_answers _ s

theorem Run.Ported.last_events {α : Type} {s : State} {r : Run α} (h : r.Ported s) :
    r.last.dp.events = s.dp.events := by
  cases r with
  | ok a t => exact Machine.Ported.events h
  | raised e t => exact Machine.Ported.events h

theorem Answers.oneEvent {s t : State} (h : Answers s t) (hs : s.oneEvent = true) : t.oneEvent = true := by
  cases h with
  | goesOn hported => exact hported.oneEvent hs
  | ends hr => exact finishChannel_oneEvent (hr.last_events ▸ ((oneEvent_iff s).1 hs).1)

/-! ## Every step -/

/-- An operation begins with no event and its framer emits at most one, so however it ends it returns at most one. -/
theorem ExecEnds.oneEvent {i : Instr} {s t : State} (h : ExecEnds i s t) (hs : s.oneEvent = true) :
    t.oneEvent = true := by
  cases h with
  | refused => exact refuse_oneEvent hs
  | converted _ hr => exact finish_oneEvent (hr.events (begin_events_length _))
  | channeled _ hr _ => exact finishChannel_oneEvent (hr.events (begin_events_length _))
  | delivered m _ => exact (deliver_answers m s).oneEvent hs

/-- The state in which an act starts its instruction, or the state after an act that starts none. -/
def Fetched.state : Fetched → State
  | .run _ s => s
  | .served s => s

theorem serve_oneEvent (r : Request) {s : State} (hs : s.oneEvent = true) : (serve r s).state.oneEvent = true := by
  cases r with
  | start desc =>
    unfold serve
    dsimp only
    split
    · exact hs
    · exact refuse_oneEvent hs
  | startRegs opc =>
    unfold serve
    dsimp only
    split
    · exact hs
    · exact refuse_oneEvent (oneEvent_of_eq hs rfl rfl)
  | writeParam w => exact hs
  | writeConfig w => exact hs
  | supply input => exact hs
  | readResult => exact readResult_oneEvent hs
  | attach ch => exact hs
  | message bs =>
    unfold serve
    dsimp only
    split
    · exact hs
    · exact (deliverBytes_answers _ s).oneEvent hs

theorem fetch_oneEvent {s : State} (hs : s.oneEvent = true) : (fetch s).state.oneEvent = true := by
  unfold fetch
  split
  · exact hs
  · exact serve_oneEvent _ hs

/-- Settles O58: an act hands on a state with at most one event, and every way in which an instruction ends keeps
that. -/
theorem everyStepKeepsOneEvent : Obligations.EveryStepKeepsOneEvent := by
  intro s t hs h
  have hfetch := fetch_oneEvent hs
  unfold step at h
  split at h
  · next i u heq =>
    rw [heq] at hfetch
    exact (execEnds_of_next h).oneEvent hfetch
  · next u heq =>
    rw [heq] at hfetch
    cases h
    exact hfetch

/-! ## A message outside a wait -/

theorem isRest_iff (q : SeqState) : q.isRest = true ↔ q = .idle ∨ q = .done ∨ q = .failed := by
  cases q <;> simp [SeqState.isRest]

/-- With `SEQ` at rest the block reads nothing (R325). -/
theorem deliver_of_isRest {s : State} (h : s.dp.seq.isRest = true) (m : Bytes) : s.deliver m = s := by
  obtain hidle | hdone | hfailed := (isRest_iff _).1 h
  · simp only [State.deliver, hidle]
  · simp only [State.deliver, hdone]
  · simp only [State.deliver, hfailed]

theorem MessageFields.exec_of_isRest {i : Instr} {cmd model : Byte} {payload : Bytes}
    (hrow : MessageFields i cmd model payload) {s : State} (h : s.dp.seq.isRest = true) :
    Machine.exec i s = .next s := by
  rw [hrow.exec, deliver_of_isRest h]

/-- Settles O49: each row delivers its message, and outside a wait a delivery changes nothing. -/
theorem messageOutsideWaitDoesNothing : Obligations.MessageOutsideWaitDoesNothing := by
  intro s model payload h
  exact ⟨(MessageFields.probe model payload).exec_of_isRest h, (MessageFields.pageWrite model payload).exec_of_isRest h,
    (MessageFields.ack model payload).exec_of_isRest h, (MessageFields.pageRead model payload).exec_of_isRest h⟩

end Sys2Proof.Machine
end

section
/-! Before the first operation (spec/70_reset_and_hazards.md R340 to R343): an operation that finds its configuration
unwritten is refused, the block always answers, and what it holds after power-on. -/

namespace Sys2Proof.Machine

/-! ## An unconfigured operation -/

theorem withKey_of_refuse {s : State} {run : Vector Byte 13 → State} (h : ∀ key, run key = s.refuse) :
    s.withKey run = s.refuse :=
  withKey_cases (P := fun t => t = s.refuse) rfl h

theorem withTables_of_none {s : State} (h : s.cfg.osT1 = none ∨ s.cfg.osT2 = none)
    (run : Vector Word 15 → Vector Word 14 → State) : s.withTables run = s.refuse := by
  unfold State.withTables
  split
  · next h1 h2 => simp [h1, h2] at h
  · rfl

theorem withProbeRequest_of_none {s : State} (h : s.cfg.probeRequest = none) (run : Bytes → State) :
    s.withProbeRequest run = s.refuse := by
  simp only [State.withProbeRequest, h]

theorem withReadRequest_of_none {s : State} (h : s.cfg.readRequest = none) (run : ReadRequest → State) :
    s.withReadRequest run = s.refuse := by
  simp only [State.withReadRequest, h]

/-- A refusal after the operands are latched, as the statements write it. -/
theorem latch_refuse (f : ParamRegs → ParamRegs) (s : State) : (s.latch f).refuse = s.endedRefused (f s.par) := rfl

section Unconfigured

variable {s : State} {i : Instr}

theorem exec_without_key (h : s.cfg.transportKey = none)
    (hi : i = .tcipher ∨ i = .pagedec ∨ (∃ p, i = .pageenc p) ∨ i = .syx2dump ∨ (∃ b m, i = .dump2syx b m) ∨
      i = .syx2os ∨ (∃ b m, i = .os2syx b m) ∨ (∃ c, i = .upload c) ∨ (∃ c a n m, i = .retrieve c a n m) ∨
      ∃ c m l, i = .display c m l) : exec i s = .next (s.latch (latched i)).refuse := by
  have hrefuse := withKey_of_none (s := s.latch (latched i)) h
  obtain rfl | rfl | ⟨p, rfl⟩ | rfl | ⟨b, m, rfl⟩ | rfl | ⟨b, m, rfl⟩ | ⟨c, rfl⟩ | ⟨c, a, n, m, rfl⟩ |
    ⟨c, m, l, rfl⟩ := hi
  all_goals exact congrArg Host.Outcome.next (hrefuse _)

/-- The composites read the key before the tables: with a key or without one, they are refused. -/
theorem exec_without_tables (h : s.cfg.osT1 = none ∨ s.cfg.osT2 = none)
    (hi : (∃ w o, i = .wordcode w o) ∨ i = .dump2os ∨ i = .os2dump ∨ i = .syx2os ∨ ∃ b m, i = .os2syx b m) :
    exec i s = .next (s.latch (latched i)).refuse := by
  have hrefuse := withTables_of_none (s := s.latch (latched i)) h
  obtain ⟨w, o, rfl⟩ | rfl | rfl | rfl | ⟨b, m, rfl⟩ := hi
  · exact congrArg Host.Outcome.next (hrefuse _)
  · exact congrArg Host.Outcome.next (hrefuse _)
  · exact congrArg Host.Outcome.next (hrefuse _)
  · exact congrArg Host.Outcome.next (withKey_of_refuse fun _ => hrefuse _)
  · exact congrArg Host.Outcome.next (withKey_of_refuse fun _ => hrefuse _)

theorem exec_without_probeRequest (h : s.cfg.probeRequest = none)
    (hi : (∃ c, i = .probe c) ∨ ∃ cs, i = .detect cs) : exec i s = .next (s.latch (latched i)).refuse := by
  have hrefuse := withProbeRequest_of_none (s := s.latch (latched i)) h
  obtain ⟨c, rfl⟩ | ⟨cs, rfl⟩ := hi
  · exact congrArg Host.Outcome.next (hrefuse _)
  · exact congrArg Host.Outcome.next (hrefuse _)

/-- `RETRIEVE` reads the key before the read request: with a key or without one, it is refused. -/
theorem exec_without_readRequest (h : s.cfg.readRequest = none) (chan : Byte) (start count : Addr) (model : Byte) :
    exec (.retrieve chan start count model) s =
      .next (s.latch (latched (.retrieve chan start count model))).refuse :=
  congrArg Host.Outcome.next <| withKey_of_refuse fun _ =>
    withReadRequest_of_none (s := s.latch (latched (.retrieve chan start count model))) h _

end Unconfigured

/-- Settles O8, register by register: whichever register is unwritten, its read ends the operation before it begins. -/
theorem unconfiguredRegisterIsRefused : Obligations.UnconfiguredRegisterIsRefused := by
  intro s i h
  rw [← latch_refuse]
  obtain ⟨hkey, hi⟩ | ⟨htables, hi⟩ | ⟨hprobe, hi⟩ | ⟨hread, c, a, n, m, rfl⟩ := h
  · exact exec_without_key hkey hi
  · exact exec_without_tables htables hi
  · exact exec_without_probeRequest hprobe hi
  · exact exec_without_readRequest hread c a n m

/-! ## The block always answers -/

/-- With nothing to serve the block waits (R343). -/
theorem step_of_inbox_nil {s : State} (h : s.inbox = []) : step s = .next s := by
  simp only [step, fetch, h]

/-- An act that starts an instruction ends as the instruction does, and every other one is served at once. -/
theorem step_eq_next (s : State) : ∃ t, step s = .next t := by
  unfold step
  split
  · next i u _ =>
    obtain ⟨t, ht, -⟩ := exec_execEnds i u
    exact ⟨t, ht⟩
  · exact ⟨_, rfl⟩

/-! Each end of an operation writes its result (R310, R314). -/

theorem finish_result (r : Run Output) : ∃ res, (finish r).result = some res := by
  cases r with
  | ok o s => exact ⟨_, State.returnOk_result _ o⟩
  | raised e s => exact ⟨_, State.returnError_result _ e⟩

theorem finishChannel_result (r : Run Output) : ∃ res, (finishChannel r).result = some res := by
  cases r with
  | ok o s => exact ⟨_, State.returnOk_result _ o⟩
  | raised e s => exact ⟨_, State.returnError_result _ e⟩

theorem ExecEnds.result {i : Instr} {s t : State} (h : ExecEnds i s t) (hi : Laws.isWireMessage i = false) :
    ∃ res, t.result = some res := by
  cases h with
  | refused => exact ⟨_, State.refuse_result _⟩
  | converted _ _ => exact finish_result _
  | channeled _ _ _ => exact finishChannel_result _
  | delivered _ hm => simp [hi] at hm

/-- Settles O4, by the inversion of `exec`: an operation is no wire message, so it ends with a result, and no status has
a code above 8. -/
theorem everyStepAnswersNext : Obligations.EveryStepAnswersNext := by
  refine ⟨fun s => ⟨?_, step_of_inbox_nil⟩, fun i s hi => ?_, rfl⟩
  · obtain ⟨t, ht⟩ := step_eq_next s
    rw [ht]
    rfl
  · have hop : Laws.isWireMessage i = false :=
      hi.elim isWireMessage_eq_false_of_isConversion isWireMessage_eq_false_of_isChannelOp
    obtain ⟨t, ht, hends⟩ := exec_execEnds i s
    obtain ⟨res, hres⟩ := hends.result hop
    exact ⟨t, res, ht, hres, res.status.code_le⟩

/-! ## After power-on -/

/-- No address has a seed of its own after power-on (R340; spec/41_stream_cipher.md R147). -/
theorem reset_seedOf_at (a : Addr) : State.reset.cfg.seedOf.at a = a.setWidth 16 :=
  seedOf_at_default fun _ => List.not_mem_nil

/-- The datapath after power-on is that of an operation's start with `SEQ` at rest, but for the 0 in `WREG` (log 5). -/
theorem reset_dp : State.reset.dp = { State.reset.startDp .idle with wreg := 0 } := rfl

/-- Settles O9: the datapath is that of an operation's start, and the configuration is unwritten or at its default. -/
theorem resetValues : Obligations.ResetValues := by
  unfold Obligations.ResetValues
  rw [reset_dp]
  exact ⟨rfl, rfl, rfl, rfl, rfl, rfl, rfl, rfl, rfl, rfl, rfl, rfl, rfl, rfl, rfl, rfl, rfl, rfl, rfl, rfl, rfl, rfl,
    rfl, reset_seedOf_at, rfl⟩

theorem reset_atRest : State.reset.atRest = true := (atRest_iff _).2 ⟨rfl, rfl, rfl⟩

theorem reset_oneEvent : State.reset.oneEvent = true := (oneEvent_iff _).2 ⟨Nat.zero_le 1, Nat.zero_le 1⟩

/-- Settles O59. -/
theorem resetMeetsInvariants : Obligations.ResetMeetsInvariants := ⟨reset_atRest, reset_oneEvent⟩

end Sys2Proof.Machine
end
